-- ==== Sys2Proof/Word.lean ====
section
/-! DEFINITION. The octet and the two-octet number of the CL840's frames, and the saturating increment its
counters use. -/

namespace Sys2Proof

/-- One octet of a frame (R159, TABLE 8-9). -/
abbrev Byte := BitVec 8

/-- One two-octet field of a frame or table entry (R172). -/
abbrev Word := BitVec 16

/-- One more, and never above `top`: the counters that "saturate" at a stated limit. -/
def satSucc (top n : Nat) : Nat := if n < top then n + 1 else top

end Sys2Proof
end

