-- ==== Sys2Proof/Syntax.lean ====
section
/-! DEFINITION. The named values of the CL840's fields, the configuration records, the table entries as a request
carries them, and the commands: one constructor of `Instr` per row of spec/opcode_table.json. -/

namespace Sys2Proof

/-! ## Named values -/

/-- A field lane (0.2.1). -/
inductive Lane
  | a | b
  deriving DecidableEq, Repr

/-- What a node is (TABLE 1-1). -/
inductive NodeKind
  | none | sensor | fan | valve | pump
  deriving DecidableEq, Repr

/-- Whether a sample report is queued for each reply taken (TABLE 1-1). -/
inductive ReportMode
  | every | never
  deriving DecidableEq, Repr

/-- Kind of a Cycle List slot (TABLE 5-1). -/
inductive SlotKind
  | mark | exchange | exchangeBranch | retryOn | gap | window | jump | call | ret | note | stop
  deriving DecidableEq, Repr

/-- Level of an aperiodic source (R126). -/
inductive Level
  | urgent | routine
  deriving DecidableEq, Repr

/-- An alarm map entry (R185). -/
inductive AlarmLine
  | al0 | al1 | al2 | none
  deriving DecidableEq, Repr

/-- The auto-hold setting (R143). -/
inductive AutoHold
  | on | off
  deriving DecidableEq, Repr

/-! ## Configuration records -/

/-- The configuration part of a node record (R1, TABLE 1-1). -/
structure NodeCfg where
  kind    : NodeKind
  lane    : Lane
  gain    : Int
  offset  : Int
  low     : Int
  high    : Int
  report  : ReportMode
  silence : Nat
  deriving DecidableEq, Repr

/-- The configuration part of a section record (TABLE 2-1, then TABLE 3-1). -/
structure SectionCfg where
  enabled         : Bool
  outlet          : Nat
  valve           : Nat
  fans            : List Nat
  nominalMargin   : Nat
  transientMargin : Nat
  band            : Nat
  riseLimit       : Nat
  valveMin        : Nat
  staleLimit      : Nat
  blindLimit      : Nat
  blindCeiling    : Nat
  transientWindow : Nat
  flushThreshold  : Nat
  flushDuration   : Nat
  postThreshold   : Nat
  deriving DecidableEq, Repr

/-- The configuration part of the loop record (TABLE 2-3, then TABLE 3-2). -/
structure LoopCfg where
  freezePoint    : Int
  supply         : Nat
  ret            : Nat
  ambient        : Nat
  supplyFloor    : Int
  band           : Nat
  riseLimit      : Nat
  staleLimit     : Nat
  blindLimit     : Nat
  blindCeiling   : Nat
  deepThreshold  : Int
  pumps          : List Nat
  pumpFloor      : Nat
  normalInterval : Nat
  deepInterval   : Nat
  deriving DecidableEq, Repr

/-- The LINK_SET table (R71, R126, R143, R163), each quantity in its table's own unit: the response timeout in 10 µs,
the probe interval in minor cycles, the link timeout in 100 ms, the fill interval in 10 ms. -/
structure LinkSet where
  responseTimeout : Nat
  probeInterval   : Nat
  frostLevel      : Level
  flushLevel      : Level
  passLevel       : Level
  probeLevel      : Level
  autoHold        : AutoHold
  linkTimeout     : Nat
  fillInterval    : Nat
  deriving DecidableEq, Repr

/-- A slot record (R94). The kind is always checked; every other field stands as it was written, since a field that
the kind does not read is kept and read back octet for octet. -/
structure Slot where
  kind       : SlotKind
  node       : Byte
  frame      : Byte
  lane       : Byte
  retries    : Byte
  alternate  : Byte
  conditions : Byte
  target     : Byte
  time       : Word
  note       : Byte
  deriving DecidableEq, Repr

/-- The configuration tables: the seven parts of the stored image (R148), which are also the working tables less the
demand table. `nodes` and `hold` are indexed by address less one. -/
structure ConfigTables where
  cycle    : Vector Slot 256
  nodes    : Vector NodeCfg 48
  sections : Vector SectionCfg 8
  loop     : LoopCfg
  hold     : Vector Nat 48
  alarm    : Vector AlarmLine 12
  linkSet  : LinkSet
  deriving DecidableEq, Repr

/-- A stored image: its parts and the CRC-32 that closes it (R148). -/
structure StoredImage where
  tables : ConfigTables
  check  : BitVec 32
  deriving DecidableEq, Repr

/-- What the non-volatile medium returns when the store reads it (R152, R156, R157): what the store wrote, an image
that differs from it, or no image. -/
inductive ReadBack
  | asHeld
  | altered (image : StoredImage)
  | absent
  deriving DecidableEq, Repr

/-! ## Table entries as received (R172): the octets of each field, not yet judged -/

/-- A CYCLE entry, in the order of TABLE 5-1. -/
structure SlotEntry where
  kind       : Byte
  node       : Byte
  frame      : Byte
  lane       : Byte
  retries    : Byte
  alternate  : Byte
  conditions : Byte
  target     : Byte
  time       : Word
  note       : Byte
  deriving DecidableEq, Repr

/-- A NODE entry, in the order of TABLE 1-1. -/
structure NodeEntry where
  kind    : Byte
  lane    : Byte
  gain    : Word
  offset  : Word
  low     : Word
  high    : Word
  report  : Byte
  silence : Byte
  deriving DecidableEq, Repr

/-- A SECTION entry: TABLE 2-1 and then TABLE 3-1. The fan list is a count octet and room for four. -/
structure SectionEntry where
  enabled         : Byte
  outlet          : Byte
  valve           : Byte
  fanCount        : Byte
  fans            : Vector Byte 4
  nominalMargin   : Word
  transientMargin : Word
  band            : Word
  riseLimit       : Word
  valveMin        : Word
  staleLimit      : Byte
  blindLimit      : Byte
  blindCeiling    : Word
  transientWindow : Byte
  flushThreshold  : Word
  flushDuration   : Word
  postThreshold   : Byte
  deriving DecidableEq, Repr

/-- A LOOP entry: TABLE 2-3 and then TABLE 3-2. The pump list is a count octet and room for two. -/
structure LoopEntry where
  freezePoint    : Word
  supply         : Byte
  ret            : Byte
  ambient        : Byte
  supplyFloor    : Word
  band           : Word
  riseLimit      : Word
  staleLimit     : Byte
  blindLimit     : Byte
  blindCeiling   : Word
  deepThreshold  : Word
  pumpCount      : Byte
  pumps          : Vector Byte 2
  pumpFloor      : Word
  normalInterval : Word
  deepInterval   : Word
  deriving DecidableEq, Repr

/-- A LINK_SET entry, in the order R172 gives. -/
structure LinkSetEntry where
  responseTimeout : Byte
  probeInterval   : Byte
  frostLevel      : Byte
  flushLevel      : Byte
  passLevel       : Byte
  probeLevel      : Byte
  autoHold        : Byte
  linkTimeout     : Byte
  fillInterval    : Byte
  deriving DecidableEq, Repr

/-! ## Commands -/

/-- What the outside can do to the CL840: one constructor per row of the table. A request row carries its frame's TAG
and the fields of its payload as octets, so that a value outside its list can be sent and refused. A row whose name is
the expiry or end of a timer says that the timer reaches its end now. -/
inductive Instr
  | powerOnReset (rateHigh : Bool)
  | startupReadEnd (read : ReadBack)
  | plantTimeTick
  | receiverOctet (octet : Byte) (charError : Bool)
  | gapTimerExpiry
  | demand (tag : Byte) (pairs : List (Byte × Word))
  | tableWriteCycle (tag first count : Byte) (entries : List SlotEntry)
  | tableWriteNode (tag first count : Byte) (entries : List NodeEntry)
  | tableWriteSection (tag first count : Byte) (entries : List SectionEntry)
  | tableWriteLoop (tag first count : Byte) (entries : List LoopEntry)
  | tableWriteDemand (tag first count : Byte) (entries : List Word)
  | tableWriteHold (tag first count : Byte) (entries : List Word)
  | tableWriteAlarmMap (tag first count : Byte) (entries : List Byte)
  | tableWriteLinkSet (tag first count : Byte) (entries : List LinkSetEntry)
  | tableRead (tag table first count : Byte)
  | pass (tag node operation parameter : Byte) (value : Word)
  | start (tag slot : Byte)
  | stop (tag : Byte)
  | reports (tag stream : Byte)
  | resume (tag : Byte)
  | hold (tag : Byte)
  | reviveNode (tag node : Byte)
  | reviveLane (tag lane : Byte)
  | flush (tag sec : Byte)
  | ack (tag : Byte) (classes : Word)
  | resetField (tag : Byte)
  | resetLink (tag : Byte)
  | resetFull (tag : Byte)
  | save (tag : Byte)
  | clear (tag : Byte)
  | idleTimeEnd
  | commandFrameSent
  | responseTimerExpiry
  | replyOctet (lane : Lane) (octet : Byte) (charError : Bool)
  | replyGapExpiry
  | replyWindowExpiry
  | waitTimerExpiry
  | laneProbeCountdownEnd (lane : Lane)
  | nodeProbeCountdownEnd (node : Nat)
  | minorCycleTimerZero
  | intervalTimerExpiry (sec : Nat)
  | flushTimerExpiry (sec : Nat)
  | storeWriteEnd (read : ReadBack)
  | linkTimerExpiry
  | fillTimerExpiry
  | transmitFrameEnd
  deriving DecidableEq, Repr

end Sys2Proof
end

