-- ==== Sys2Proof/Decode.lean ====
section
/-! DEFINITION. The commands as words of the opcode table. No row of spec/opcode_table.json gives its command any bits,
so no word spells a command. The octets of the plant link and of the lanes are read in Machine/Wire.lean. -/

namespace Sys2Proof

/-- The command that the `nbits` low bits of `w` spell by the table's own bits: none, since no row has any. -/
def decodeTableWord (_nbits _w : Nat) : Option Instr := none

end Sys2Proof
end

