-- ==== Sys2Proof/Config.lean ====
section
/-! DEFINITION. The values the reference leaves open, as constants with no body. -/

namespace Sys2Proof

/-- The octet at `position` of a refused response's data, where TABLE 8-6 names a field of the request and the request
is too short to carry it (a TABLE_READ of fewer than two octets, a COMMAND of none). The reference states no value
there (log 12), so nothing is assumed about this one. -/
opaque Config.missingOctet (payload : List Byte) (position : Nat) : Byte

end Sys2Proof
end

