-- ==== Sys2Proof/Machine/Defaults.lean ====
section
/-! DEFINITION. The default configuration: what the working tables hold after a power-on with no valid stored image
(TABLE 1-2, TABLE 2-1, TABLE 2-3, TABLE 3-1, TABLE 3-2, TABLE 4-1, TABLE 6-2, TABLE 8-1, TABLE 10-2, R18, R95, R143). -/

namespace Sys2Proof.Machine

/-- TABLE 1-2, "power-on, no valid image". -/
def defaultNode : NodeCfg :=
  { kind := .none, lane := .a, gain := 4096, offset := 0, low := -32768, high := 32767, report := .every, silence := 3 }

/-- The defaults of TABLE 2-1 and TABLE 3-1. -/
def defaultSection : SectionCfg :=
  { enabled := false, outlet := 0, valve := 0, fans := [], nominalMargin := 500, transientMargin := 800, band := 1000,
    riseLimit := 20, valveMin := 200, staleLimit := 10, blindLimit := 30, blindCeiling := 0, transientWindow := 8,
    flushThreshold := 100, flushDuration := 90, postThreshold := 3 }

/-- The defaults of TABLE 2-3 and TABLE 3-2. -/
def defaultLoop : LoopCfg :=
  { freezePoint := -3400, supply := 0, ret := 0, ambient := 0, supplyFloor := 500, band := 500, riseLimit := 20,
    staleLimit := 10, blindLimit := 30, blindCeiling := 0, deepThreshold := -2500, pumps := [], pumpFloor := 300,
    normalInterval := 3600, deepInterval := 900 }

/-- The defaults of TABLE 4-1 (500 µs, 20 minor cycles), TABLE 6-2, R143 and TABLE 8-1 (3 s, 250 ms). -/
def defaultLinkSet : LinkSet :=
  { responseTimeout := 50, probeInterval := 20, frostLevel := .urgent, flushLevel := .urgent, passLevel := .routine,
    probeLevel := .routine, autoHold := .on, linkTimeout := 30, fillInterval := 25 }

/-- R95: with no valid image every slot is STOP, "and all its other fields are 0, no or empty". An octet of 0 is also
lane A and frame POLL; the alternate field's "no" is the octet 1 (R172 codes "yes, no"). -/
def defaultSlot : Slot :=
  { kind := .stop, node := 0, frame := 0, lane := 0, retries := 0, alternate := 1, conditions := 0, target := 0,
    time := 0, note := 0 }

/-- TABLE 10-2, in the order of TABLE 10-1. -/
def defaultAlarm : Vector AlarmLine 12 :=
  #v[.al0, .al0, .al2, .al2, .al1, .al1, .none, .al0, .al2, .none, .al1, .none]

/-- The default hold entry of a node of each kind (R18). -/
def defaultHold : NodeKind → Nat
  | .fan => 0
  | .valve => 1000
  | .pump => 1000
  | .sensor => 0
  | .none => 0

/-- The default configuration of R157 step 1. -/
def defaultTables : ConfigTables :=
  { cycle := Vector.replicate 256 defaultSlot, nodes := Vector.replicate 48 defaultNode,
    sections := Vector.replicate 8 defaultSection, loop := defaultLoop, hold := Vector.replicate 48 0,
    alarm := defaultAlarm, linkSet := defaultLinkSet }

end Sys2Proof.Machine
end

