-- ==== Sys2Proof/Machine/State.lean ====
section
/-! DEFINITION. Everything the CL840 holds, block by block (TABLE 0-1), as plain data, and its values after power-on.
Times are counted in µs but for the section timers, which are counted in ms (R54). -/

namespace Sys2Proof.Machine

/-! ## Node Table (Chapter 1) -/

/-- The status conditions of a reply (TABLE 4-3). -/
structure Status where
  busy     : Bool
  fault    : Bool
  localCtl : Bool
  ice      : Bool
  deriving DecidableEq, Repr

/-- Node health (TABLE 1-1). -/
inductive Health
  | active | silent
  deriving DecidableEq, Repr

/-- The sample state and health of one node (TABLE 1-1). -/
structure NodeState where
  value          : Option Int
  age            : Nat
  lastRaw        : Option Int
  lastStatus     : Option Status
  lastSent       : Option Nat
  health         : Health
  streak         : Nat
  probeCountdown : Nat
  deriving DecidableEq, Repr

/-- The power-on values of TABLE 1-2. -/
def NodeState.powerOn : NodeState :=
  { value := none, age := 255, lastRaw := none, lastStatus := none, lastSent := none, health := .active, streak := 0,
    probeCountdown := 0 }

/-! ## Frost Guard and Flush Accounting (Chapters 2 and 3) -/

/-- How far a sample can be trusted (2.7.1). -/
inductive Sight
  | seen | stale | blind
  deriving DecidableEq, Repr

/-- Flow state of a section (TABLE 3-3). -/
inductive Flow
  | opened | parked | flushing
  deriving DecidableEq, Repr

/-- The frost state (TABLE 2-2) and the flush state (TABLE 3-3) of one section. A timer is none while it is stopped. -/
structure SectionState where
  ceiling    : Nat
  fanCeiling : Nat
  valveFloor : Nat
  sight      : Sight
  transient  : Nat
  clamps     : Nat
  flow       : Flow
  balance    : Int
  interval   : Option Nat
  flushTimer : Option Nat
  overdues   : Nat
  blocked    : Bool
  deriving DecidableEq, Repr

/-- The power-on values of TABLE 2-2 and TABLE 3-3. -/
def SectionState.powerOn : SectionState :=
  { ceiling := 0, fanCeiling := 0, valveFloor := 1000, sight := .blind, transient := 0, clamps := 0, flow := .parked,
    balance := 0, interval := none, flushTimer := none, overdues := 0, blocked := false }

/-- The state of the loop record (TABLE 2-4). -/
structure LoopState where
  ceiling      : Nat
  supplySight  : Sight
  retValue     : Option Int
  retSight     : Sight
  ambientSight : Sight
  deepFrost    : Bool
  deriving DecidableEq, Repr

/-- The power-on values of TABLE 2-4 for a supply node named (`supply` not 0) or not named. -/
def LoopState.powerOn (supply : Nat) : LoopState :=
  { ceiling := if supply = 0 then 1000 else 0, supplySight := if supply = 0 then .seen else .blind, retValue := none,
    retSight := .blind, ambientSight := .blind, deepFrost := true }

/-! ## Exchange Engine (Chapter 4) -/

/-- State of a lane (4.5.1). -/
inductive LaneHealth
  | up | down
  deriving DecidableEq, Repr

/-- The state of one lane (TABLE 4-7) with its four error counts (R76). -/
structure LaneState where
  health         : LaneHealth
  streak         : Nat
  probeCountdown : Nat
  noReply        : Nat
  badFrame       : Nat
  wrongNode      : Nat
  wrongKind      : Nat
  deriving DecidableEq, Repr

/-- The power-on values of TABLE 4-7. -/
def LaneState.powerOn : LaneState :=
  { health := .up, streak := 0, probeCountdown := 0, noReply := 0, badFrame := 0, wrongNode := 0, wrongKind := 0 }

/-- A transfer error (R75). -/
inductive TransferError
  | noReply | badFrame | wrongNode | wrongKind
  deriving DecidableEq, Repr

/-- Kind of a command frame (TABLE 4-2). -/
inductive FrameKind
  | poll | drive | paramRead | paramWrite | probe
  deriving DecidableEq, Repr

/-- Origin of an exchange (TABLE 4-5). -/
inductive Origin
  | slot | frost | flushStart | flushEnd | pass | nodeProbe | laneProbe
  deriving DecidableEq, Repr

/-- Outcome of an exchange (TABLE 4-5). -/
inductive Outcome
  | done | failed | skipped
  deriving DecidableEq, Repr

/-- The conditions of a result record (TABLE 4-5), in the order of that table. -/
structure Conditions where
  transferFail : Bool
  skipped      : Bool
  busy         : Bool
  fault        : Bool
  localCtl     : Bool
  ice          : Bool
  range        : Bool
  clamped      : Bool
  deriving DecidableEq, Repr

/-- What a requester asks of the Exchange Engine (R77, R111, TABLE 6-4): the origin, the node, the frame kind, the lane
the exchange is to use first (slot lane, preferred lane or probed lane), the retries and alternation of a slot, the
retry conditions of a RETRY_ON slot (as the octet the slot holds), the section of a flush, and the tag, parameter id
and value of a PASS request. -/
structure ExchangeRequest where
  origin    : Origin
  node      : Nat
  kind      : FrameKind
  lane      : Lane
  retries   : Nat
  alternate : Bool
  retryOn   : Byte
  sec       : Nat
  tag       : Byte
  parameter : Byte
  value     : Word
  deriving DecidableEq, Repr

/-- The stage an attempt has reached (R74, R75): waiting out the lane idle time, sending the command frame, waiting for
the first reply octet, receiving reply octets. -/
inductive Phase
  | idle | sending | waiting | receiving
  deriving DecidableEq, Repr

/-- The exchange in flight: its request, the frame built for it, the value sent and the CLAMPED condition fixed when
the frame was built (R45, R46), and the attempt being made: its number, its lane, its phase, the reply octets held
and the µs left of the command frame, the response timer, the 40 µs between reply octets and the 360 µs of the reply. -/
structure Flight where
  request    : ExchangeRequest
  frame      : List Byte
  valueSent  : Option Nat
  clamped    : Bool
  attempt    : Nat
  lane       : Lane
  phase      : Phase
  octets     : List Byte
  frameLeft  : Nat
  replyLeft  : Nat
  gapLeft    : Nat
  windowLeft : Nat
  deriving DecidableEq, Repr

/-- An exchange result record (TABLE 4-5). -/
structure ExchangeResult where
  node       : Nat
  origin     : Origin
  kind       : FrameKind
  valueSent  : Option Nat
  outcome    : Outcome
  conditions : Conditions
  attempts   : Option Nat
  lastLane   : Option Lane
  replyValue : Option Int
  time       : BitVec 32
  cycle      : BitVec 16
  deriving DecidableEq, Repr

/-- The Exchange Engine: the lanes, the last-good node (0 for none), the exchange in flight, the µs still to be kept
idle since the last attempt ended (R74), and the result record of the exchange that ended last. -/
structure ExchangeEngine where
  laneA      : LaneState
  laneB      : LaneState
  lastGood   : Nat
  flight     : Option Flight
  idleLeft   : Nat
  lastResult : Option ExchangeResult
  deriving DecidableEq, Repr

/-- The power-on values of TABLE 4-7. -/
def ExchangeEngine.powerOn : ExchangeEngine :=
  { laneA := .powerOn, laneB := .powerOn, lastGood := 0, flight := none, idleLeft := 0, lastResult := none }

/-! ## Bus Sequencer (Chapter 5) -/

/-- Sequencer state (5.1.3). -/
inductive SeqState
  | idle | running | stopping | halted
  deriving DecidableEq, Repr

/-- Activity within the current slot (5.3.1). -/
inductive Activity
  | none | markWait | exchange | gapWait | window
  deriving DecidableEq, Repr

/-- State of the minor-cycle timer (5.6.1). -/
inductive CycleTimer
  | idle | counting | due | lapsed
  deriving DecidableEq, Repr

/-- Halt cause (TABLE 5-3). -/
inductive HaltCause
  | none | badSlot | nestedCall | emptyReturn | runaway
  deriving DecidableEq, Repr

/-- The Bus Sequencer (TABLE 5-3). `resume` is the model's own: the slot the walk goes to next, while a command that
ended the slot before it has not yet been taken whole (log 5). -/
structure Sequencer where
  state     : SeqState
  current   : Nat
  activity  : Activity
  ret       : Option Nat
  timer     : CycleTimer
  timerLeft : Nat
  wait      : Nat
  cycle     : BitVec 16
  chain     : Nat
  haltCause : HaltCause
  haltSlot  : Nat
  overruns  : Nat
  resume    : Option Nat
  deriving DecidableEq, Repr

/-- The power-on values of TABLE 5-3. -/
def Sequencer.powerOn : Sequencer :=
  { state := .idle, current := 0, activity := .none, ret := none, timer := .idle, timerLeft := 0, wait := 0, cycle := 0,
    chain := 0, haltCause := .none, haltSlot := 0, overruns := 0, resume := none }

/-! ## Aperiodic Arbiter (Chapter 6) -/

/-- Whether a FLUSH request starts or ends a pulse (TABLE 6-1). -/
inductive FlushKind
  | pulseStart | pulseEnd
  deriving DecidableEq, Repr

/-- A FLUSH queue entry (TABLE 6-1). -/
structure FlushRequest where
  sec       : Nat
  kind      : FlushKind
  mandatory : Bool
  deriving DecidableEq, Repr

/-- The operation of a PASS request (TABLE 6-1). -/
inductive PassOp
  | paramRead | paramWrite
  deriving DecidableEq, Repr

/-- A PASS queue entry (TABLE 6-1). -/
structure PassRequest where
  tag       : Byte
  node      : Nat
  op        : PassOp
  parameter : Byte
  value     : Word
  deriving DecidableEq, Repr

/-- A PROBE queue entry (TABLE 6-1). -/
inductive ProbeTarget
  | node (address : Nat)
  | lane (lane : Lane)
  deriving DecidableEq, Repr

/-- A position of the arbiter's order (R127). The routine pointer holds one of the first four. -/
inductive Position
  | frost | flush | pass | probe | group
  deriving DecidableEq, Repr

/-- Kind of a window (R131). -/
inductive WindowKind
  | fixed | runToEnd
  deriving DecidableEq, Repr

/-- The window record (6.1.2). The moment of opening is held as the µs elapsed since it. -/
structure Window where
  isOpen   : Bool
  kind     : WindowKind
  length   : Nat
  elapsed  : Nat
  stopping : Bool
  inFlight : Option Origin
  deriving DecidableEq, Repr

/-- A closed window record with nothing in flight (R125). -/
def Window.closed : Window :=
  { isOpen := false, kind := .fixed, length := 0, elapsed := 0, stopping := false, inFlight := none }

/-- The Aperiodic Arbiter: the four queues, oldest entry first, the two pointers and the window record. `due` is the
model's own: a decision of R131 is to be made once the command under way has been taken whole (log 5). -/
structure Arbiter where
  frost   : List Nat
  flush   : List FlushRequest
  pass    : List PassRequest
  probe   : List ProbeTarget
  urgent  : Position
  routine : Position
  window  : Window
  due     : Bool
  deriving DecidableEq, Repr

/-- The values of R125. -/
def Arbiter.powerOn : Arbiter :=
  { frost := [], flush := [], pass := [], probe := [], urgent := .group, routine := .probe, window := .closed,
    due := false }

/-! ## Supervision mode and Configuration Store (Chapter 7) -/

/-- Supervision mode (R141). -/
inductive Mode
  | supervised | autonomous
  deriving DecidableEq, Repr

/-- Store state (R149). The part is STARTING while it is READING (R154). -/
inductive StoreState
  | reading | idle | writing
  deriving DecidableEq, Repr

/-- Image state (R149). -/
inductive ImageState
  | valid | invalid | blank
  deriving DecidableEq, Repr

/-- The Configuration Store: its two fields (R149), what the non-volatile medium holds, and the copy of the working
tables being written (R150). -/
structure Store where
  state  : StoreState
  image  : ImageState
  stored : Option StoredImage
  copy   : Option ConfigTables
  deriving DecidableEq, Repr

/-! ## Plant link (Chapter 8) -/

/-- Event class (TABLE 10-1). -/
inductive EventClass
  | frostStop | blind | nodeSilent | laneDown | linkLost | seqHalt | overrun | flushOverdue | flushBlocked | reportLoss
  | storeFault | note
  deriving DecidableEq, Repr

/-- Informational report (R183). -/
inductive InfoClass
  | storeDone | linkUp | nodeRevived | laneUp | mode
  deriving DecidableEq, Repr

/-- Class of an EVENT_REPORT that is not a PASS_REPLY. -/
inductive ReportClass
  | event (c : EventClass)
  | info (c : InfoClass)
  deriving DecidableEq, Repr

/-- Subject of an event or informational report (TABLE 8-8). -/
inductive Subject
  | none
  | sec (i : Nat)
  | node (address : Nat)
  | lane (l : Lane)
  | slot (i : Nat)
  | note (n : Byte)
  | mode (m : Mode)
  deriving DecidableEq, Repr

/-- A sample report (R13). -/
structure SampleReport where
  node      : Nat
  time      : BitVec 32
  cycle     : BitVec 16
  value     : Option Int
  status    : Status
  valueSent : Option Nat
  clamped   : Bool
  deriving DecidableEq, Repr

/-- An event or informational report (R182, R183). -/
structure EventReport where
  cls     : ReportClass
  subject : Subject
  time    : BitVec 32
  cycle   : BitVec 16
  detail  : Byte
  deriving DecidableEq, Repr

/-- A PASS_REPLY (R137). -/
structure PassReply where
  tag        : Byte
  node       : Nat
  op         : PassOp
  parameter  : Byte
  outcome    : Outcome
  conditions : Conditions
  value      : Option Int
  time       : BitVec 32
  cycle      : BitVec 16
  deriving DecidableEq, Repr

/-- An entry of the report queue. -/
inductive Report
  | sample (r : SampleReport)
  | event (r : EventReport)
  | passReply (r : PassReply)
  deriving DecidableEq, Repr

/-- Result code (TABLE 9-1), in the order of TABLE 8-6. -/
inductive ResultCode
  | ok | busy | notNow | badKind | badTable | badIndex | badValue | badLength | full | nodeSilent
  deriving DecidableEq, Repr

/-- An entry of the response queue (R173): the TAG and KIND of the request answered, the result code and the data.
`powerOn` marks the response of a RESET FULL, at whose end the power-on is taken (R162). -/
structure Response where
  tag     : Byte
  kind    : Byte
  code    : ResultCode
  data    : List Byte
  powerOn : Bool
  deriving DecidableEq, Repr

/-- Receiver state (R160). -/
inductive RxState
  | hunt | header | body
  deriving DecidableEq, Repr

/-- The receiver: its state, its held octets, and the µs left on its gap timer (0 while it does not run). -/
structure Receiver where
  state : RxState
  held  : List Byte
  gap   : Nat
  deriving DecidableEq, Repr

/-- Link state (8.1.2). -/
inductive LinkHealth
  | up | lost
  deriving DecidableEq, Repr

/-- Report stream state (R167). -/
inductive Stream
  | off | hold | send
  deriving DecidableEq, Repr

/-- The frame in transmission: its octets, and whether a RESET FULL's power-on waits for its end. -/
structure TxFrame where
  octets  : List Byte
  powerOn : Bool
  deriving DecidableEq, Repr

/-- The link counters (R171). -/
structure LinkCounters where
  valid     : Nat
  lenError  : Nat
  crcError  : Nat
  gapError  : Nat
  charError : Nat
  discarded : Nat
  deriving DecidableEq, Repr

/-- All link counters at 0. -/
def LinkCounters.zero : LinkCounters :=
  { valid := 0, lenError := 0, crcError := 0, gapError := 0, charError := 0, discarded := 0 }

/-- The Link Unit (8.1.2). The link timer is none while it is stopped; so is the fill timer. -/
@[ext]
structure LinkUnit where
  rx        : Receiver
  link      : LinkHealth
  linkTimer : Option Nat
  responses : List Response
  reports   : List Report
  stream    : Stream
  tx        : Option TxFrame
  seqNo     : Byte
  fillTimer : Option Nat
  counters  : LinkCounters
  losses    : Nat
  deriving DecidableEq, Repr

/-- A receiver in HUNT with nothing held. -/
def Receiver.hunting : Receiver := { state := .hunt, held := [], gap := 0 }

/-- The power-on values of TABLE 8-2, with the fill timer loaded for a fill interval of `fill` units of 10 ms. -/
def LinkUnit.powerOn (fill : Nat) : LinkUnit :=
  { rx := .hunting, link := .lost, linkTimer := none, responses := [], reports := [], stream := .hold, tx := none,
    seqNo := 0, fillTimer := some (fill * 10000), counters := .zero, losses := 0 }

/-! ## Event Unit (Chapter 10) -/

/-- The Event Unit (10.1.2) but for the alarm map, which is configuration: the twelve flags, bit n for the class whose
code is n + 1, and the drive of the three lines. -/
structure EventUnit where
  flags : BitVec 12
  al0   : Bool
  al1   : Bool
  al2   : Bool
  deriving DecidableEq, Repr

/-- The power-on values: no flag set (R187), every line asserted (R154). -/
def EventUnit.powerOn : EventUnit := { flags := 0, al0 := true, al1 := true, al2 := true }

/-! ## The machine -/

/-- Plant link rate (0.8.1). -/
inductive LinkRate
  | low115200 | high460800
  deriving DecidableEq, Repr

/-- Everything the CL840 holds. `cfg` holds the working configuration tables; `demand` and `nodes` are indexed by
address less one. `ratePin` is the level of the RATE strap and `rate` what was sampled from it. `pending` is the queue
of commands waiting, first in, first out. -/
@[ext]
structure State where
  cfg       : ConfigTables
  demand    : Vector (Option Nat) 48
  nodes     : Vector NodeState 48
  sections  : Vector SectionState 8
  loop      : LoopState
  xe        : ExchangeEngine
  seq       : Sequencer
  arb       : Arbiter
  lu        : LinkUnit
  eu        : EventUnit
  store     : Store
  mode      : Mode
  plantTime : BitVec 32
  ratePin   : Bool
  rate      : LinkRate
  pending   : List Instr
  deriving DecidableEq, Repr

/-- Why the machine stops with a fault: the reference gives the part no such reason, so there is none. -/
inductive Fault
  deriving DecidableEq, Repr

/-- Why a command has no meaning. -/
inductive Refusal
  /-- Raised by `exec` for a command that has no meaning yet, by its mnemonic. Safe: the run stops. -/
  | notModelled (mnemonic : String)
  deriving DecidableEq, Repr

/-- The machine right after reset: every block at its power-on values, the part STARTING with the store READING
(R154), the working tables at the default configuration (log 3), no stored image (log 3) and no command waiting. -/
def State.reset : State :=
  { cfg := defaultTables, demand := Vector.replicate 48 none, nodes := Vector.replicate 48 .powerOn,
    sections := Vector.replicate 8 .powerOn, loop := .powerOn 0, xe := .powerOn, seq := .powerOn, arb := .powerOn,
    lu := .powerOn 25, eu := .powerOn,
    store := { state := .reading, image := .blank, stored := none, copy := none },
    mode := .autonomous, plantTime := 0, ratePin := false, rate := .low115200, pending := [] }

end Sys2Proof.Machine
end

