-- ==== Sys2Proof/Machine/Ops.lean ====
section
/-! DEFINITION. Reading and writing the parts of the state: one update per block, the records by address or number,
the roles of nodes, and the order in which a rule goes through the sections and the nodes. -/

namespace Sys2Proof.Machine

/-! ## One update per block -/

def State.withCfg (s : State) (x : ConfigTables) : State := { s with cfg := x }
def State.withDemand (s : State) (x : Vector (Option Nat) 48) : State := { s with demand := x }
def State.withNodes (s : State) (x : Vector NodeState 48) : State := { s with nodes := x }
def State.withSections (s : State) (x : Vector SectionState 8) : State := { s with sections := x }
def State.withLoop (s : State) (x : LoopState) : State := { s with loop := x }
def State.withXe (s : State) (x : ExchangeEngine) : State := { s with xe := x }
def State.withSeq (s : State) (x : Sequencer) : State := { s with seq := x }
def State.withArb (s : State) (x : Arbiter) : State := { s with arb := x }
def State.withLu (s : State) (x : LinkUnit) : State := { s with lu := x }
def State.withEu (s : State) (x : EventUnit) : State := { s with eu := x }
def State.withStore (s : State) (x : Store) : State := { s with store := x }
def State.withMode (s : State) (x : Mode) : State := { s with mode := x }
def State.withPlantTime (s : State) (x : BitVec 32) : State := { s with plantTime := x }
def State.withPending (s : State) (x : List Instr) : State := { s with pending := x }

/-! ## Records by address, number or index -/

/-- The part is STARTING while the store is READING (R154). -/
abbrev State.Starting (s : State) : Prop := s.store.state = .reading

/-- Configuration of the node at an address. Address 0 and addresses above 48 name no record (1.1.2). -/
def State.nodeCfg (s : State) (a : Nat) : NodeCfg :=
  if a = 0 then defaultNode else (s.cfg.nodes[a - 1]?).getD defaultNode

/-- Kind of the node at an address. -/
def State.kindOf (s : State) (a : Nat) : NodeKind := (s.nodeCfg a).kind

/-- Sample state and health of the node at an address. -/
def State.node (s : State) (a : Nat) : NodeState :=
  if a = 0 then .powerOn else (s.nodes[a - 1]?).getD .powerOn

/-- Write the sample state and health of a node. -/
def State.setNode (s : State) (a : Nat) (n : NodeState) : State :=
  if a = 0 then s else s.withNodes (s.nodes.setIfInBounds (a - 1) n)

/-- Demand entry of a node, none for unset (R16). -/
def State.demandOf (s : State) (a : Nat) : Option Nat :=
  if a = 0 then none else (s.demand[a - 1]?).getD none

/-- Write a demand entry. -/
def State.setDemand (s : State) (a : Nat) (d : Option Nat) : State :=
  if a = 0 then s else s.withDemand (s.demand.setIfInBounds (a - 1) d)

/-- Hold entry of a node (R18). -/
def State.holdOf (s : State) (a : Nat) : Nat :=
  if a = 0 then 0 else (s.cfg.hold[a - 1]?).getD 0

/-- Write a hold entry. -/
def State.setHold (s : State) (a h : Nat) : State :=
  if a = 0 then s else s.withCfg { s.cfg with hold := s.cfg.hold.setIfInBounds (a - 1) h }

/-- Configuration of a section. -/
def State.secCfg (s : State) (i : Nat) : SectionCfg := (s.cfg.sections[i]?).getD defaultSection

/-- State of a section. -/
def State.sec (s : State) (i : Nat) : SectionState := (s.sections[i]?).getD .powerOn

/-- Write the state of a section. -/
def State.setSec (s : State) (i : Nat) (x : SectionState) : State := s.withSections (s.sections.setIfInBounds i x)

/-- A slot of the Cycle List. -/
def State.slot (s : State) (i : Nat) : Slot := (s.cfg.cycle[i]?).getD defaultSlot

/-- State of a lane. -/
def State.lane (s : State) : Lane → LaneState
  | .a => s.xe.laneA
  | .b => s.xe.laneB

/-- Write the state of a lane. -/
def State.setLane (s : State) (l : Lane) (x : LaneState) : State :=
  match l with
  | .a => s.withXe { s.xe with laneA := x }
  | .b => s.withXe { s.xe with laneB := x }

/-- The other lane. -/
def other : Lane → Lane
  | .a => .b
  | .b => .a

/-- Both lanes are DOWN (R37, R77, R87). -/
abbrev State.BothDown (s : State) : Prop := s.xe.laneA.health = .down ∧ s.xe.laneB.health = .down

/-! ## Roles and orders -/

/-- A node that may be driven (R1). -/
def isActuator : NodeKind → Bool
  | .none => false
  | .sensor => false
  | .fan => true
  | .valve => true
  | .pump => true

/-- Section numbers in order. -/
def sectionNumbers : List Nat := List.range 8

/-- Node addresses in order. -/
def nodeAddresses : List Nat := List.range' 1 48

/-- The section a node is a fan of. -/
def State.fanSection (s : State) (a : Nat) : Option Nat :=
  sectionNumbers.find? fun i => decide (a ≠ 0) && (s.secCfg i).fans.contains a

/-- The section a node is the valve of. -/
def State.valveSection (s : State) (a : Nat) : Option Nat :=
  sectionNumbers.find? fun i => decide (a ≠ 0) && (s.secCfg i).valve == a

/-- The section a node is the outlet of. -/
def State.outletSection (s : State) (a : Nat) : Option Nat :=
  sectionNumbers.find? fun i => decide (a ≠ 0) && (s.secCfg i).outlet == a

/-- A node is a pump of the loop. -/
def State.isPump (s : State) (a : Nat) : Bool := decide (a ≠ 0) && s.cfg.loop.pumps.contains a

/-- Apply a rule to every section, "in section order 0 to 7". -/
def forSections (f : Nat → State → State) (s : State) : State := sectionNumbers.foldl (fun t i => f i t) s

/-- Apply a rule to every node, in address order 1 to 48. -/
def forNodes (f : Nat → State → State) (s : State) : State := nodeAddresses.foldl (fun t a => f a t) s

end Sys2Proof.Machine
end

