-- ==== Sys2Proof/Machine/Queues.lean ====
section
/-! DEFINITION. The four aperiodic queues: posting (R123) and removal by health changes (R124). -/

namespace Sys2Proof.Machine

/-- R131, R134: a run-to-end window is open and waits with nothing in flight, so that a post brings a decision. -/
def Window.waiting (w : Window) : Bool :=
  w.isOpen && w.kind == .runToEnd && w.inFlight.isNone && !w.stopping

/-- R131: a post has joined a queue; a waiting window makes a decision once the command has been taken whole. -/
def posted (s : State) : State := s.withArb { s.arb with due := s.arb.due || s.arb.window.waiting }

/-- R123: post a node to FROST. A node already queued absorbs the post. -/
def postFrost (a : Nat) (s : State) : State :=
  if s.arb.frost.contains a then s else posted (s.withArb { s.arb with frost := s.arb.frost ++ [a] })

/-- Two FLUSH entries have the same key: section and kind (TABLE 6-1). -/
def FlushRequest.sameKey (x y : FlushRequest) : Bool := x.sec == y.sec && x.kind == y.kind

/-- R123: post a FLUSH request. An entry of the same key absorbs the post, and takes its mandatory flag if it has one. -/
def postFlush (r : FlushRequest) (s : State) : State :=
  if s.arb.flush.any (·.sameKey r) then
    if r.mandatory then
      s.withArb { s.arb with
        flush := s.arb.flush.map fun x => if x.sameKey r then { x with mandatory := true } else x }
    else s
  else posted (s.withArb { s.arb with flush := s.arb.flush ++ [r] })

/-- Capacity of the PASS queue (R122). -/
def passCapacity : Nat := 8

/-- R123: post a PASS request, if the queue has room. -/
def postPass (r : PassRequest) (s : State) : State :=
  if s.arb.pass.length < passCapacity then posted (s.withArb { s.arb with pass := s.arb.pass ++ [r] }) else s

/-- R123: post a probe. A probe of the same target absorbs the post. -/
def postProbe (t : ProbeTarget) (s : State) : State :=
  if s.arb.probe.contains t then s else posted (s.withArb { s.arb with probe := s.arb.probe ++ [t] })

/-- R124: remove a node's FROST entry, if there is one. -/
def removeFrost (a : Nat) (s : State) : State :=
  s.withArb { s.arb with frost := s.arb.frost.filter (· ≠ a) }

/-- R124: remove a node's or lane's probe, if there is one. -/
def removeProbe (t : ProbeTarget) (s : State) : State :=
  s.withArb { s.arb with probe := s.arb.probe.filter (· ≠ t) }

end Sys2Proof.Machine
end

