-- ==== Sys2Proof/Machine/Codes.lean ====
section
/-! DEFINITION. The codes of R172: each list of named values in the order the reference first gives it, coded by
position from 0; the codes TABLE 8-4 to TABLE 8-9 give outright; and how numbers become octets. -/

namespace Sys2Proof.Machine

/-- The code of `x` in the list of its values (R172). -/
def codeIn {α : Type} [DecidableEq α] (values : List α) (x : α) : Byte := BitVec.ofNat 8 (values.idxOf x)

/-- The value whose code is `b`, none where `b` decodes to no value of the list. -/
def valueOf {α : Type} (values : List α) (b : Byte) : Option α := values[b.toNat]?

/-- Values in the order of TABLE 1-1. -/
def nodeKinds : List NodeKind := [.none, .sensor, .fan, .valve, .pump]
def lanes : List Lane := [.a, .b]
def reportModes : List ReportMode := [.every, .never]
def healths : List Health := [.active, .silent]
/-- "yes, no" (TABLE 2-1, TABLE 3-3, TABLE 5-1). -/
def yesNo : List Bool := [true, false]
/-- Values in the order of TABLE 5-1. -/
def slotKinds : List SlotKind :=
  [.mark, .exchange, .exchangeBranch, .retryOn, .gap, .window, .jump, .call, .ret, .note, .stop]
def levels : List Level := [.urgent, .routine]
def autoHolds : List AutoHold := [.on, .off]
def alarmLines : List AlarmLine := [.al0, .al1, .al2, .none]
def sights : List Sight := [.seen, .stale, .blind]
def flows : List Flow := [.opened, .parked, .flushing]
def seqStates : List SeqState := [.idle, .running, .stopping, .halted]
def activities : List Activity := [.none, .markWait, .exchange, .gapWait, .window]
def cycleTimers : List CycleTimer := [.idle, .counting, .due, .lapsed]
def haltCauses : List HaltCause := [.none, .badSlot, .nestedCall, .emptyReturn, .runaway]
def laneHealths : List LaneHealth := [.up, .down]
def positions : List Position := [.frost, .flush, .pass, .probe, .group]
def windowKinds : List WindowKind := [.fixed, .runToEnd]
def origins : List Origin := [.slot, .frost, .flushStart, .flushEnd, .pass, .nodeProbe, .laneProbe]
def modes : List Mode := [.supervised, .autonomous]
def storeStates : List StoreState := [.reading, .idle, .writing]
def imageStates : List ImageState := [.valid, .invalid, .blank]
def linkHealths : List LinkHealth := [.up, .lost]
def rxStates : List RxState := [.hunt, .header, .body]
def streams : List Stream := [.off, .hold, .send]
def passOps : List PassOp := [.paramRead, .paramWrite]
def outcomes : List Outcome := [.done, .failed, .skipped]
/-- Result codes in the order of TABLE 8-6. -/
def resultCodes : List ResultCode :=
  [.ok, .busy, .notNow, .badKind, .badTable, .badIndex, .badValue, .badLength, .full, .nodeSilent]
/-- Event classes in the order of TABLE 10-1. -/
def eventClasses : List EventClass :=
  [.frostStop, .blind, .nodeSilent, .laneDown, .linkLost, .seqHalt, .overrun, .flushOverdue, .flushBlocked,
    .reportLoss, .storeFault, .note]
/-- Informational reports in the order of TABLE 8-8. -/
def infoClasses : List InfoClass := [.storeDone, .linkUp, .nodeRevived, .laneUp, .mode]

/-- The place of an event class among the flags and in the alarm map: its code less one (TABLE 9-2). -/
def EventClass.index (c : EventClass) : Nat := eventClasses.idxOf c

/-- Class code of an event or informational report (TABLE 8-8). -/
def ReportClass.code : ReportClass → Byte
  | .event c => BitVec.ofNat 8 (c.index + 1)
  | .info c => BitVec.ofNat 8 (infoClasses.idxOf c + 32)

/-- Class code of a PASS_REPLY (TABLE 8-8). -/
def passReplyCode : Byte := 48

/-- The kind octet of a field command frame (TABLE 8-9). -/
def FrameKind.code : FrameKind → Byte
  | .poll => 0x01
  | .drive => 0x02
  | .paramRead => 0x03
  | .paramWrite => 0x04
  | .probe => 0x05

/-! ## Octets -/

/-- A two-octet field, most significant octet first (R172). -/
def wordOctets (w : Word) : List Byte := [w.extractLsb' 8 8, w.extractLsb' 0 8]

/-- A four-octet field, most significant octet first (R172). -/
def longOctets (w : BitVec 32) : List Byte :=
  [w.extractLsb' 24 8, w.extractLsb' 16 8, w.extractLsb' 8 8, w.extractLsb' 0 8]

/-- Two octets as a number, most significant first (R172). -/
def word (hi lo : Byte) : Word := hi ++ lo

/-- One octet of a number within 0 to 255. -/
def natOctet (n : Nat) : Byte := BitVec.ofNat 8 n

/-- The two octets of a number within 0 to 65535. -/
def natOctets (n : Nat) : List Byte := wordOctets (BitVec.ofNat 16 n)

/-- The two octets of a signed number, in two's complement. -/
def intOctets (x : Int) : List Byte := wordOctets (BitVec.ofInt 16 x)

/-- A presence octet and then a two-octet signed field, 0x8000 when absent (R172, R178). -/
def optIntOctets : Option Int → List Byte
  | some x => 1 :: intOctets x
  | none => 0 :: wordOctets 0x8000

/-- A presence octet and then a two-octet unsigned field, 0xFFFF when absent (R172, R178). -/
def optNatOctets : Option Nat → List Byte
  | some n => 1 :: natOctets n
  | none => 0 :: wordOctets 0xFFFF

/-- A presence octet and then a one-octet field, 0 when absent (R178). -/
def optOctet : Option Byte → List Byte
  | some b => [1, b]
  | none => [0, 0]

/-- A set of up to eight members, bit 0 for the first (R172). -/
def setOctet (members : List Bool) : Byte :=
  (members.foldr (fun m acc => acc <<< 1 ||| (if m then 1 else 0)) (0 : Byte))

/-- The status conditions in the order of TABLE 4-3. -/
def Status.octet (s : Status) : Byte := setOctet [s.busy, s.fault, s.localCtl, s.ice]

/-- The status conditions in the low bits of a reply's second octet (TABLE 8-9). The other bits are not read here. -/
def Status.ofOctet (b : Byte) : Status :=
  { busy := b.getLsbD 0, fault := b.getLsbD 1, localCtl := b.getLsbD 2, ice := b.getLsbD 3 }

/-- The conditions in the order of TABLE 4-5. -/
def Conditions.octet (c : Conditions) : Byte :=
  setOctet [c.transferFail, c.skipped, c.busy, c.fault, c.localCtl, c.ice, c.range, c.clamped]

/-! ## Checks -/

/-- One octet through a CRC-8 with polynomial x^8 + x^2 + x + 1, unreflected (R72). -/
def crc8Octet (crc b : Byte) : Byte :=
  (List.range 8).foldl (fun c _ => if c.msb then c <<< 1 ^^^ 0x07 else c <<< 1) (crc ^^^ b)

/-- The check of a field frame: initial value 0, not complemented (R72). -/
def crc8 (octets : List Byte) : Byte := octets.foldl crc8Octet 0

/-- One octet through a CRC-16 with polynomial 0x1021, unreflected (R159). -/
def crc16Octet (crc : Word) (b : Byte) : Word :=
  (List.range 8).foldl (fun c _ => if c.msb then c <<< 1 ^^^ 0x1021 else c <<< 1) (crc ^^^ (b ++ (0 : Byte)))

/-- The CRC of a link frame: initial value 0xFFFF, not complemented (R159). -/
def crc16 (octets : List Byte) : Word := octets.foldl crc16Octet 0xFFFF

/-- One octet through a CRC-32 with polynomial 0x04C11DB7, reflected on input and output (R148). Reflected, the
register shifts the other way and the polynomial reads 0xEDB88320. -/
def crc32Octet (crc : BitVec 32) (b : Byte) : BitVec 32 :=
  (List.range 8).foldl (fun c _ => if c.getLsbD 0 then c >>> 1 ^^^ 0xEDB88320 else c >>> 1) (crc ^^^ b.setWidth 32)

/-- The check value of an image: initial value all ones, result complemented (R148). -/
def crc32 (octets : List Byte) : BitVec 32 := ~~~ octets.foldl crc32Octet 0xFFFFFFFF

end Sys2Proof.Machine
end

