-- ==== Sys2Proof/Machine/Flags.lean ====
section
/-! DEFINITION. The Event Unit's flags and alarm lines (Chapter 10). -/

namespace Sys2Proof.Machine

/-- The flag of a class is set. -/
def State.flag (s : State) (c : EventClass) : Bool := s.eu.flags.getLsbD c.index

/-- R186: some set flag is mapped to the line. -/
def lineHeld (map : Vector AlarmLine 12) (flags : BitVec 12) (line : AlarmLine) : Bool :=
  (List.range 12).any fun n => flags.getLsbD n && (map[n]?).getD .none == line

/-- R186, R154: drive the three lines. All are asserted while STARTING; otherwise each follows the flags and the map. -/
def driveLines (s : State) : State :=
  if s.Starting then s.withEu { s.eu with al0 := true, al1 := true, al2 := true }
  else s.withEu { s.eu with al0 := lineHeld s.cfg.alarm s.eu.flags .al0,
                            al1 := lineHeld s.cfg.alarm s.eu.flags .al1,
                            al2 := lineHeld s.cfg.alarm s.eu.flags .al2 }

/-- R182: set the flag of a class, whatever it held, and drive the lines. -/
def setFlag (c : EventClass) (s : State) : State :=
  driveLines (s.withEu { s.eu with flags := s.eu.flags ||| (1#12 <<< c.index) })

/-- R184: clear the flag of every class in a set, bit n for the class whose code is n + 1, and drive the lines. -/
def clearFlags (classes : BitVec 12) (s : State) : State :=
  driveLines (s.withEu { s.eu with flags := s.eu.flags &&& ~~~classes })

end Sys2Proof.Machine
end

