-- ==== Sys2Proof/Machine/Reports.lean ====
section
/-! DEFINITION. Queueing a report (R167, R168), raising an event (R182) and queueing an informational report (R183). -/

namespace Sys2Proof.Machine

/-- The report is a sample report (R168). -/
def Report.isSample : Report → Bool
  | .sample _ => true
  | .event _ => false
  | .passReply _ => false

/-- R168: a loss is counted, and REPORT_LOSS is raised if its flag is clear. It queues no report of its own (R182). -/
def countLoss (s : State) : State :=
  let t := s.withLu { s.lu with losses := satSucc 65535 s.lu.losses }
  if t.flag .reportLoss then t else setFlag .reportLoss t

/-- Capacity of the report queue (R167). -/
def reportCapacity : Nat := 64

/-- Put a report at the tail of the report queue. -/
def pushReport (r : Report) (s : State) : State := s.withLu { s.lu with reports := s.lu.reports ++ [r] }

/-- Remove the oldest sample report from the report queue (R168). -/
def dropOldestSample (s : State) : State := s.withLu { s.lu with reports := s.lu.reports.eraseP Report.isSample }

/-- R167, R168: a block queues a report. -/
def queueReport (r : Report) (s : State) : State :=
  if s.lu.stream = .off then s
  else if s.lu.reports.length < reportCapacity then pushReport r s
  else if r.isSample then countLoss s
  else if s.lu.reports.any Report.isSample then countLoss (pushReport r (dropOldestSample s))
  else countLoss s

/-- R182: an event is raised: its flag is set and, but for REPORT_LOSS, its report is queued. -/
def raise (c : EventClass) (subject : Subject) (detail : Byte) (s : State) : State :=
  let t := setFlag c s
  if c = .reportLoss then t
  else queueReport (.event { cls := .event c, subject := subject, time := t.plantTime, cycle := t.seq.cycle,
                             detail := detail }) t

/-- R183: an informational report is queued. -/
def inform (c : InfoClass) (subject : Subject) (detail : Byte) (s : State) : State :=
  queueReport (.event { cls := .info c, subject := subject, time := s.plantTime, cycle := s.seq.cycle,
                        detail := detail }) s

end Sys2Proof.Machine
end

