-- ==== Sys2Proof/Machine/Frost.lean ====
section
/-! DEFINITION. The Frost Guard (Chapter 2). -/

namespace Sys2Proof.Machine

/-! ## Derivation and override check -/

/-- R29: the effective fan ceiling E. -/
def fanCeilingOf (flow : Flow) (c l : Nat) : Nat := if flow = .flushing then 0 else min c l

/-- R29: the valve floor V. -/
def valveFloorOf (flow : Flow) (sight : Sight) (valveMin c : Nat) : Nat :=
  if flow = .flushing ∨ sight = .blind then 1000 else max valveMin (1000 - c)

/-- R29: derive E and V of a section. -/
def derive (i : Nat) (s : State) : State :=
  let x := s.sec i
  s.setSec i { x with fanCeiling := fanCeilingOf x.flow x.ceiling s.loop.ceiling,
                      valveFloor := valveFloorOf x.flow x.sight (s.secCfg i).valveMin x.ceiling }

/-- R30: a fan stands outside its limit: ACTIVE, and its last sent above E or absent. -/
def fanOutside (n : NodeState) (e : Nat) : Bool :=
  n.health == .active && (match n.lastSent with | none => true | some v => decide (e < v))

/-- R30: a valve or pump stands outside its limit: ACTIVE, and its last sent below the floor or absent. -/
def floorOutside (n : NodeState) (floor : Nat) : Bool :=
  n.health == .active && (match n.lastSent with | none => true | some v => decide (v < floor))

/-- R30: post a fan of section `i` if it stands outside E. -/
def checkFan (i a : Nat) (s : State) : State :=
  if fanOutside (s.node a) (s.sec i).fanCeiling then postFrost a s else s

/-- R30: post the valve of section `i` if it stands outside V. -/
def checkValve (i a : Nat) (s : State) : State :=
  if a ≠ 0 ∧ floorOutside (s.node a) (s.sec i).valveFloor then postFrost a s else s

/-- R30: post a pump if it stands outside the pump floor. -/
def checkPump (a : Nat) (s : State) : State :=
  if floorOutside (s.node a) s.cfg.loop.pumpFloor then postFrost a s else s

/-- R30: the override check of a section: its fans in list order, then its valve. -/
def overrideCheck (i : Nat) (s : State) : State :=
  checkValve i (s.secCfg i).valve ((s.secCfg i).fans.foldl (fun t a => checkFan i a t) s)

/-- R30: the pump part of the override check, in list order. -/
def pumpCheck (s : State) : State := s.cfg.loop.pumps.foldl (fun t a => checkPump a t) s

/-- R29, R30: every derivation is followed by an override check. -/
def deriveAndCheck (i : Nat) (s : State) : State := overrideCheck i (derive i s)

/-- R47, R48: the override check for one node, by its role. -/
def checkNode (a : Nat) (s : State) : State :=
  match s.fanSection a with
  | some i => checkFan i a s
  | none =>
    match s.valveSection a with
    | some i => checkValve i a s
    | none => if s.isPump a then checkPump a s else s

/-! ## Computations at an arrival -/

/-- R32, R35: a raw ceiling from a headroom and a band. -/
def rawCeiling (headroom : Int) (band : Nat) : Nat :=
  if headroom ≤ 0 then 0 else if (band : Int) ≤ headroom then 1000 else 1000 * headroom.toNat / band

/-- R33, R35: a rise is limited, a fall takes effect at once. -/
def limitRise (raw prev rise : Nat) : Nat := if prev < raw then min raw (prev + rise) else raw

/-- R31: the margin in effect. -/
def marginInEffect (c : SectionCfg) (x : SectionState) : Nat :=
  if 0 < x.transient then c.transientMargin else c.nominalMargin

/-- R32, R33: the new section ceiling for an outlet value. -/
def newCeiling (c : SectionCfg) (x : SectionState) (freezePoint outlet : Int) : Nat :=
  limitRise (rawCeiling (outlet - freezePoint - marginInEffect c x) c.band) x.ceiling c.riseLimit

/-- R31 to R34: the section ceiling computation of section `i` at an outlet value. -/
def sectionArrival (i : Nat) (outlet : Int) (s : State) : State :=
  let x := s.sec i
  let c := newCeiling (s.secCfg i) x s.cfg.loop.freezePoint outlet
  let t := deriveAndCheck i (s.setSec i { x with sight := .seen, ceiling := c })
  if 0 < x.ceiling ∧ c = 0 then raise .frostStop (.sec i) 0 t else t

/-- R28, R36, R40: derive and check every section, in order, if L has changed. -/
def afterLoopCeiling (before : Nat) (s : State) : State :=
  if s.loop.ceiling ≠ before then forSections deriveAndCheck s else s

/-- R35: the new loop ceiling for a supply value. -/
def newLoopCeiling (c : LoopCfg) (prev : Nat) (supply : Int) : Nat :=
  limitRise (rawCeiling (supply - c.supplyFloor) c.band) prev c.riseLimit

/-- R35, R36: the loop ceiling computation at a supply value. -/
def supplyArrival (supply : Int) (s : State) : State :=
  let prev := s.loop.ceiling
  let l := newLoopCeiling s.cfg.loop prev supply
  let t := afterLoopCeiling prev (s.withLoop { s.loop with supplySight := .seen, ceiling := l })
  if 0 < prev ∧ l = 0 then raise .frostStop (.node s.cfg.loop.supply) 0 t else t

/-- R41: a return arrival. -/
def returnArrival (v : Int) (s : State) : State :=
  s.withLoop { s.loop with retValue := some v, retSight := .seen }

/-- R41, R42: an ambient arrival. -/
def ambientArrival (v : Int) (s : State) : State :=
  s.withLoop { s.loop with ambientSight := .seen, deepFrost := decide (v < s.cfg.loop.deepThreshold) }

/-! ## Sight -/

/-- R37: the sight of a node's sample as judged at a mark. -/
def judgeSight (s : State) (a stale blind : Nat) : Sight :=
  let n := s.node a
  if blind < n.age ∨ n.health = .silent ∨ n.value = none ∨ s.BothDown then .blind
  else if stale < n.age then .stale else .seen

/-- R37: the table of transitions. A mark never improves a sight. -/
def sightAfter : Sight → Sight → Sight
  | .seen, judged => judged
  | .stale, .blind => .blind
  | .stale, .seen => .stale
  | .stale, .stale => .stale
  | .blind, _ => .blind

/-- R39: a section enters BLIND. -/
def enterBlind (i : Nat) (s : State) : State :=
  let x := s.sec i
  raise .blind (.sec i) 0
    (deriveAndCheck i (s.setSec i { x with sight := .blind, ceiling := min x.ceiling (s.secCfg i).blindCeiling }))

/-- R38: a section enters STALE. -/
def enterStale (i : Nat) (s : State) : State := deriveAndCheck i (s.setSec i { s.sec i with sight := .stale })

/-- R37 to R39: the judgement of one section's sight at a mark. -/
def markSection (i : Nat) (s : State) : State :=
  let c := s.secCfg i
  if c.enabled then
    let before := (s.sec i).sight
    let after := sightAfter before (judgeSight s c.outlet c.staleLimit c.blindLimit)
    if after = before then s
    else if after = .blind then enterBlind i s
    else if after = .stale then enterStale i s
    else s
  else s

/-- R40: the supply enters BLIND: L is cut, the event raised with the supply node's address as its subject. -/
def supplyBlind (s : State) : State :=
  let before := s.loop.ceiling
  raise .blind (.node s.cfg.loop.supply) 0
    (afterLoopCeiling before
      (s.withLoop { s.loop with supplySight := .blind, ceiling := min before s.cfg.loop.blindCeiling }))

/-- R40: the judgement of the supply sight at a mark, when a supply node is named. -/
def markSupply (s : State) : State :=
  let c := s.cfg.loop
  if c.supply = 0 then s
  else
    let before := s.loop.supplySight
    let after := sightAfter before (judgeSight s c.supply c.staleLimit c.blindLimit)
    if after = before then s
    else if after = .blind then supplyBlind s
    else s.withLoop { s.loop with supplySight := after }

/-- R41: a loop sight judged at a mark. The sight of a node of 0 stays BLIND. -/
def loopSight (s : State) (a : Nat) (before : Sight) : Sight :=
  if a = 0 then .blind else sightAfter before (judgeSight s a s.cfg.loop.staleLimit s.cfg.loop.blindLimit)

/-- R41, R42: the return and ambient sights at a mark, and then the deep-frost flag. -/
def markReturnAmbient (s : State) : State :=
  let amb := loopSight s s.cfg.loop.ambient s.loop.ambientSight
  s.withLoop { s.loop with retSight := loopSight s s.cfg.loop.ret s.loop.retSight, ambientSight := amb,
                           deepFrost := s.loop.deepFrost || amb == .blind }

/-- R44: count down the transient window of an enabled section. -/
def markTransient (i : Nat) (s : State) : State :=
  if (s.secCfg i).enabled then s.setSec i { s.sec i with transient := (s.sec i).transient - 1 } else s

/-- 2.7.3: what the Frost Guard does at a cycle mark, in order. -/
def frostMark (s : State) : State :=
  forSections markTransient (markReturnAmbient (markSupply (forSections markSection s)))

/-! ## Drives -/

/-- R19: the demand source value D. -/
def demandSource (s : State) (a : Nat) : Nat :=
  match s.mode, s.demandOf a with
  | .supervised, some d => d
  | .supervised, none => s.holdOf a
  | .autonomous, _ => s.holdOf a

/-- R45: the value sent for a value before limits, by the role of the node as it stands. -/
def clampDrive (s : State) (a before : Nat) : Nat :=
  match s.fanSection a with
  | some i => min before (s.sec i).fanCeiling
  | none =>
    match s.valveSection a with
    | some i => max before (s.sec i).valveFloor
    | none => if s.isPump a then max before s.cfg.loop.pumpFloor else before

/-- R46: the section whose fan or valve a node is. -/
def clampSection (s : State) (a : Nat) : Option Nat :=
  match s.fanSection a with
  | some i => some i
  | none => s.valveSection a

/-- R46: one clamped DRIVE counted in the section whose fan or valve the node is. -/
def countClamp (a : Nat) (s : State) : State :=
  match clampSection s a with
  | some i => s.setSec i { s.sec i with clamps := satSucc 65535 (s.sec i).clamps }
  | none => s

/-- R43: a successful valve DRIVE that moves the valve starts the section's transient window. -/
def startTransient (a : Nat) (prev new : Option Nat) (s : State) : State :=
  match s.valveSection a with
  | some i => if new = prev then s else s.setSec i { s.sec i with transient := (s.secCfg i).transientWindow }
  | none => s

/-- R43, R47: the Frost Guard takes a successful DRIVE. -/
def frostTakesDrive (a : Nat) (prev new : Option Nat) (s : State) : State :=
  checkNode a (startTransient a prev new s)

end Sys2Proof.Machine
end

