-- ==== Sys2Proof/Machine/Flush.lean ====
section
/-! DEFINITION. Flush Accounting (Chapter 3). -/

namespace Sys2Proof.Machine

/-- R54: the length in ms that the interval timer is loaded with, as the deep-frost flag selects. -/
def intervalLength (s : State) : Nat :=
  1000 * (if s.loop.deepFrost then s.cfg.loop.deepInterval else s.cfg.loop.normalInterval)

/-- R54: the interval timer of a section starts or restarts. -/
def startInterval (i : Nat) (s : State) : State := s.setSec i { s.sec i with interval := some (intervalLength s) }

/-- R53: the flow as judged from the last sent of the section's valve node. -/
def judgedFlow (s : State) (i : Nat) : Flow :=
  let c := s.secCfg i
  if c.valve = 0 then .parked
  else
    match (s.node c.valve).lastSent with
    | none => .parked
    | some v => if c.flushThreshold ≤ v then .opened else .parked

/-- R53: set a section's flow; a change is handed to the Frost Guard. -/
def setFlow (i : Nat) (f : Flow) (s : State) : State :=
  if (s.sec i).flow = f then s else deriveAndCheck i (s.setSec i { s.sec i with flow := f })

/-- R53: judge the flow of a section. -/
def judgeFlow (i : Nat) (s : State) : State := setFlow i (judgedFlow s i) s

/-- R66, R67: a flush pulse ends without a balance change: the flush timer stops and the flow is judged. -/
def endPulse (i : Nat) (s : State) : State := judgeFlow i (s.setSec i { s.sec i with flushTimer := none })

/-- R53: Flush Accounting takes a successful DRIVE. While FLUSHING no judgement is made. -/
def flushTakesDrive (a : Nat) (s : State) : State :=
  match s.valveSection a with
  | some i => if (s.sec i).flow = .flushing then s else judgeFlow i s
  | none => s

/-! ## Interval expiry (R55, R56) -/

/-- R55: the balance after an expiry. -/
def balanceAtExpiry (flow : Flow) (b : Int) : Int := if flow = .opened then max (-3) (b - 1) else min 7 (b + 1)

/-- R56: the expiry finds the balance at +7 and would raise it. -/
def overdueAtExpiry (flow : Flow) (b : Int) : Bool := flow ≠ .opened && decide (7 ≤ b)

/-- R54 to R56: an interval expiry of a section, and the restart of its timer. -/
def intervalExpiry (i : Nat) (s : State) : State :=
  let x := s.sec i
  let isOverdue := overdueAtExpiry x.flow x.balance
  let t := s.setSec i { x with balance := balanceAtExpiry x.flow x.balance,
                               overdues := if isOverdue then satSucc 65535 x.overdues else x.overdues }
  startInterval i (if isOverdue then raise .flushOverdue (.sec i) 0 t else t)

/-! ## Posting (R57 to R59) -/

/-- R58: a flush of the section is blocked. -/
def flushBlocked (s : State) (i : Nat) : Bool :=
  let c := s.secCfg i
  (s.node c.valve).health == .silent
    || (s.loop.retSight == .seen
        && (match s.loop.retValue with
            | some v => decide (v ≤ s.cfg.loop.freezePoint + c.nominalMargin)
            | none => false))

/-- R58, R60: FLUSH_BLOCKED is raised under the blocked reported mark. -/
def reportBlocked (i : Nat) (s : State) : State :=
  if (s.sec i).blocked then s
  else raise .flushBlocked (.sec i) 0 (s.setSec i { s.sec i with blocked := true })

/-- R57, R68: the effective post threshold. -/
def effectiveThreshold (s : State) (i : Nat) : Nat :=
  match s.mode with
  | .supervised => (s.secCfg i).postThreshold
  | .autonomous => 1

/-- A START for the section is queued (R57). -/
def startQueued (s : State) (i : Nat) : Bool :=
  s.arb.flush.any (·.sameKey { sec := i, kind := .pulseStart, mandatory := false })

/-- R57: the judgement of one section at a cycle mark. -/
def markFlush (i : Nat) (s : State) : State :=
  let x := s.sec i
  if (s.secCfg i).enabled = false ∨ x.flow = .flushing ∨ x.balance < effectiveThreshold s i then s
  else if startQueued s i then
    if x.balance = 7 then postFlush { sec := i, kind := .pulseStart, mandatory := true } s else s
  else if flushBlocked s i then reportBlocked i s
  else postFlush { sec := i, kind := .pulseStart, mandatory := x.balance == 7 } s

/-- R57: what Flush Accounting does at a cycle mark. -/
def flushMark (s : State) : State := forSections markFlush s

/-! ## The pulse (R60 to R65) -/

/-- R60, R65: Flush Accounting's own checks at a grant. -/
def flushGrantPasses (s : State) (r : FlushRequest) : Bool :=
  let c := s.secCfg r.sec
  c.enabled && (s.node c.valve).health != .silent
    && (match r.kind with
        | .pulseStart => true
        | .pulseEnd => (s.sec r.sec).flow != .flushing)

/-- R60, R65: a grant that ends SKIPPED: a START of an enabled section whose valve is SILENT reports the block. -/
def flushGrantSkipped (r : FlushRequest) (s : State) : State :=
  match r.kind with
  | .pulseStart => if (s.secCfg r.sec).enabled then reportBlocked r.sec s else s
  | .pulseEnd => s

/-- R61: a FLUSH START that succeeded begins or extends the pulse. -/
def pulseBegins (i : Nat) (s : State) : State :=
  setFlow i .flushing
    (s.setSec i { s.sec i with flushTimer := some (1000 * (s.secCfg i).flushDuration), blocked := false })

/-- R61, R62: Flush Accounting takes the end of a FLUSH START exchange with `node`. -/
def flushStartResult (i node : Nat) (success : Bool) (s : State) : State :=
  if success && (s.secCfg i).enabled && (s.secCfg i).valve == node then pulseBegins i s else s

/-- R63: the pulse completes. -/
def pulseCompletes (i : Nat) (s : State) : State :=
  let x := s.sec i
  postFlush { sec := i, kind := .pulseEnd, mandatory := false }
    (setFlow i .parked (s.setSec i { x with balance := max (-3) (x.balance - 1), flushTimer := none }))

end Sys2Proof.Machine
end

