-- ==== Sys2Proof/Machine/Wire.lean ====
section
/-! DEFINITION. Octet layouts (8.9): the entries of the tables written and read, the field frames, the upward frames
and the stored image. -/

namespace Sys2Proof.Machine

/-! ## Table entries as octets (R172) -/

/-- A CYCLE entry in the order of TABLE 5-1. -/
def slotOctets (s : Slot) : List Byte :=
  [codeIn slotKinds s.kind, s.node, s.frame, s.lane, s.retries, s.alternate, s.conditions, s.target]
    ++ wordOctets s.time ++ [s.note]

/-- A NODE entry in the order of TABLE 1-1. -/
def nodeOctets (c : NodeCfg) : List Byte :=
  [codeIn nodeKinds c.kind, codeIn lanes c.lane] ++ intOctets c.gain ++ intOctets c.offset ++ intOctets c.low
    ++ intOctets c.high ++ [codeIn reportModes c.report, natOctet c.silence]

/-- A list of varying length: a count octet and room for `room` entries, unused ones 0 (R172). -/
def listOctets (room : Nat) (xs : List Nat) : List Byte :=
  natOctet xs.length :: (List.range room).map (fun i => natOctet (xs.getD i 0))

/-- A SECTION entry: TABLE 2-1 and then TABLE 3-1. -/
def sectionOctets (c : SectionCfg) : List Byte :=
  [codeIn yesNo c.enabled, natOctet c.outlet, natOctet c.valve] ++ listOctets 4 c.fans
    ++ natOctets c.nominalMargin ++ natOctets c.transientMargin ++ natOctets c.band ++ natOctets c.riseLimit
    ++ natOctets c.valveMin ++ [natOctet c.staleLimit, natOctet c.blindLimit] ++ natOctets c.blindCeiling
    ++ [natOctet c.transientWindow] ++ natOctets c.flushThreshold ++ natOctets c.flushDuration
    ++ [natOctet c.postThreshold]

/-- A LOOP entry: TABLE 2-3 and then TABLE 3-2. -/
def loopOctets (c : LoopCfg) : List Byte :=
  intOctets c.freezePoint ++ [natOctet c.supply, natOctet c.ret, natOctet c.ambient] ++ intOctets c.supplyFloor
    ++ natOctets c.band ++ natOctets c.riseLimit ++ [natOctet c.staleLimit, natOctet c.blindLimit]
    ++ natOctets c.blindCeiling ++ intOctets c.deepThreshold ++ listOctets 2 c.pumps ++ natOctets c.pumpFloor
    ++ natOctets c.normalInterval ++ natOctets c.deepInterval

/-- A DEMAND entry: the value, or 0xFFFF for unset. -/
def demandOctets : Option Nat → List Byte
  | some n => natOctets n
  | none => wordOctets 0xFFFF

/-- A LINK_SET entry in the order of R172. -/
def linkSetOctets (c : LinkSet) : List Byte :=
  [natOctet c.responseTimeout, natOctet c.probeInterval, codeIn levels c.frostLevel, codeIn levels c.flushLevel,
    codeIn levels c.passLevel, codeIn levels c.probeLevel, codeIn autoHolds c.autoHold, natOctet c.linkTimeout,
    natOctet c.fillInterval]

/-- The octets the image's check value is computed over: the seven parts in the order of R148, each entry in its
table's layout (log 11). -/
def tablesOctets (t : ConfigTables) : List Byte :=
  t.cycle.toList.flatMap slotOctets ++ t.nodes.toList.flatMap nodeOctets
    ++ t.sections.toList.flatMap sectionOctets ++ loopOctets t.loop ++ t.hold.toList.flatMap natOctets
    ++ t.alarm.toList.map (codeIn alarmLines) ++ linkSetOctets t.linkSet

/-- The image of a set of tables, with its check value (R148). -/
def imageOf (t : ConfigTables) : StoredImage := { tables := t, check := crc32 (tablesOctets t) }

/-- R148: an image is valid when its check value matches the CRC-32 of its parts as read back. -/
def imageChecks (i : StoredImage) : Bool := i.check == crc32 (tablesOctets i.tables)

/-! ## Table entries from octets -/

/-- A CYCLE entry of eleven octets. -/
def readSlot : List Byte → Option SlotEntry
  | [k, n, f, l, r, a, c, t, w1, w0, note] =>
    some { kind := k, node := n, frame := f, lane := l, retries := r, alternate := a, conditions := c, target := t,
           time := word w1 w0, note := note }
  | _ => none

/-- A NODE entry of twelve octets. -/
def readNode : List Byte → Option NodeEntry
  | [k, l, g1, g0, o1, o0, a1, a0, b1, b0, r, s] =>
    some { kind := k, lane := l, gain := word g1 g0, offset := word o1 o0, low := word a1 a0, high := word b1 b0,
           report := r, silence := s }
  | _ => none

/-- A SECTION entry of 28 octets. -/
def readSection : List Byte → Option SectionEntry
  | [e, o, v, n, f0, f1, f2, f3, nm1, nm0, tm1, tm0, bd1, bd0, rl1, rl0, vm1, vm0, sl, bl, bc1, bc0, tw, ft1, ft0,
      fd1, fd0, pt] =>
    some { enabled := e, outlet := o, valve := v, fanCount := n, fans := #v[f0, f1, f2, f3],
           nominalMargin := word nm1 nm0, transientMargin := word tm1 tm0, band := word bd1 bd0,
           riseLimit := word rl1 rl0, valveMin := word vm1 vm0, staleLimit := sl, blindLimit := bl,
           blindCeiling := word bc1 bc0, transientWindow := tw, flushThreshold := word ft1 ft0,
           flushDuration := word fd1 fd0, postThreshold := pt }
  | _ => none

/-- A LOOP entry of 26 octets. -/
def readLoop : List Byte → Option LoopEntry
  | [fz1, fz0, s, r, a, sf1, sf0, bd1, bd0, rl1, rl0, sl, bl, bc1, bc0, dt1, dt0, n, p0, p1, pf1, pf0, ni1, ni0, di1,
      di0] =>
    some { freezePoint := word fz1 fz0, supply := s, ret := r, ambient := a, supplyFloor := word sf1 sf0,
           band := word bd1 bd0, riseLimit := word rl1 rl0, staleLimit := sl, blindLimit := bl,
           blindCeiling := word bc1 bc0, deepThreshold := word dt1 dt0, pumpCount := n, pumps := #v[p0, p1],
           pumpFloor := word pf1 pf0, normalInterval := word ni1 ni0, deepInterval := word di1 di0 }
  | _ => none

/-- A DEMAND or HOLD entry of two octets. -/
def readWord : List Byte → Option Word
  | [w1, w0] => some (word w1 w0)
  | _ => none

/-- An ALARM_MAP entry of one octet. -/
def readOctet : List Byte → Option Byte
  | [b] => some b
  | _ => none

/-- A LINK_SET entry of nine octets. -/
def readLinkSet : List Byte → Option LinkSetEntry
  | [rt, pi, fr, fl, pa, pr, ah, lt, fi] =>
    some { responseTimeout := rt, probeInterval := pi, frostLevel := fr, flushLevel := fl, passLevel := pa,
           probeLevel := pr, autoHold := ah, linkTimeout := lt, fillInterval := fi }
  | _ => none

/-- Exactly `count` entries of `len` octets each, or none where the octets are more or fewer (R175). -/
def readEntries {ε : Type} (len : Nat) (read : List Byte → Option ε) : Nat → List Byte → Option (List ε)
  | 0, [] => some []
  | 0, _ :: _ => none
  | n + 1, octets =>
    match read (octets.take len), readEntries len read n (octets.drop len) with
    | some e, some es => some (e :: es)
    | _, _ => none

/-- The (node, value) pairs of a DEMAND payload: whole pairs of three octets each, or none (R173). -/
def readPairs : List Byte → Option (List (Byte × Word))
  | [] => some []
  | n :: v1 :: v0 :: rest =>
    match readPairs rest with
    | some ps => some ((n, word v1 v0) :: ps)
    | none => none
  | _ => none

/-! ## Field frames (R72, R73, TABLE 8-9) -/

/-- A command frame: address, kind, payload and check. -/
def commandFrame (address : Nat) (kind : FrameKind) (payload : List Byte) : List Byte :=
  let body := natOctet address :: kind.code :: payload
  body ++ [crc8 body]

/-- Number of octets of a command frame of each kind (TABLE 4-2). -/
def FrameKind.length : FrameKind → Nat
  | .poll => 3
  | .drive => 5
  | .paramRead => 4
  | .paramWrite => 6
  | .probe => 3

/-- A valid reply: its status, value and parameter value. -/
structure Reply where
  status    : Status
  value     : Word
  parameter : Word
  deriving DecidableEq, Repr

/-- R75: the seven octets of a reply judged in order: the check, the address, and then the kind echo (bit 7 the reply
mark, bits 4 to 6 the command kind). -/
def judgeReply (address : Nat) (kind : FrameKind) (octets : List Byte) : TransferError ⊕ Reply :=
  match octets with
  | [a, ks, v1, v0, p1, p0, c] =>
    if crc8 [a, ks, v1, v0, p1, p0] ≠ c then .inl .badFrame
    else if a.toNat ≠ address then .inl .wrongNode
    else if ks.getLsbD 7 = false ∨ (ks.extractLsb' 4 3).setWidth 8 ≠ kind.code then .inl .wrongKind
    else .inr { status := .ofOctet ks, value := word v1 v0, parameter := word p1 p0 }
  | _ => .inl .badFrame

/-! ## Upward frames (R159, TABLE 8-6 to TABLE 8-8) -/

/-- Downward kinds (TABLE 8-4). -/
def kindDemand : Byte := 0x10
def kindTableWrite : Byte := 0x11
def kindTableRead : Byte := 0x12
def kindCommand : Byte := 0x13
def kindPass : Byte := 0x14
/-- Upward kinds (TABLE 8-4). -/
def kindResponse : Byte := 0x20
def kindSample : Byte := 0x21
def kindEvent : Byte := 0x22
def kindFill : Byte := 0x23

/-- R162 step 3: the five downward kinds. -/
def isDownward (k : Byte) : Bool :=
  k == kindDemand || k == kindTableWrite || k == kindTableRead || k == kindCommand || k == kindPass

/-- The octets of a link frame (R159). -/
def linkFrame (kind tag : Byte) (payload : List Byte) : List Byte :=
  let body := natOctet (payload.length + 2) :: kind :: tag :: payload
  [0xD3, 0x4B] ++ body ++ wordOctets (crc16 body)

/-- The RESPONSE payload (TABLE 8-6). -/
def Response.payload (r : Response) : List Byte := r.kind :: codeIn resultCodes r.code :: r.data

/-- The SAMPLE_REPORT payload (TABLE 8-7). -/
def SampleReport.payload (r : SampleReport) : List Byte :=
  [natOctet r.node] ++ longOctets r.time ++ wordOctets r.cycle
    ++ [setOctet [r.value.isSome, r.valueSent.isSome, r.clamped], r.status.octet]
    ++ intOctets (r.value.getD (-32768)) ++ natOctets (r.valueSent.getD 0xFFFF)

/-- Subject kind of an event or informational report (TABLE 8-8). -/
def Subject.kindOctet : Subject → Byte
  | .none => 0
  | .sec _ => 1
  | .node _ => 2
  | .lane _ => 3
  | .slot _ => 4
  | .note _ => 5
  | .mode _ => 6

/-- Subject octet of an event or informational report. Where there is none it is 0 (log 13). -/
def Subject.octet : Subject → Byte
  | .none => 0
  | .sec i => natOctet i
  | .node a => natOctet a
  | .lane l => codeIn lanes l
  | .slot i => natOctet i
  | .note n => n
  | .mode m => codeIn modes m

/-- The EVENT_REPORT payload of an event or informational report (TABLE 8-8). -/
def EventReport.payload (r : EventReport) : List Byte :=
  [r.cls.code, r.subject.kindOctet, r.subject.octet] ++ longOctets r.time ++ wordOctets r.cycle ++ [r.detail]

/-- The EVENT_REPORT payload of a PASS_REPLY (TABLE 8-8). -/
def PassReply.payload (r : PassReply) : List Byte :=
  [passReplyCode, r.tag, natOctet r.node, codeIn passOps r.op, r.parameter, codeIn outcomes r.outcome,
    r.conditions.octet] ++ optIntOctets r.value ++ longOctets r.time ++ wordOctets r.cycle

/-- Kind of the frame a report travels in (R159). -/
def Report.kind : Report → Byte
  | .sample _ => kindSample
  | .event _ => kindEvent
  | .passReply _ => kindEvent

/-- Payload of the frame a report travels in. -/
def Report.payload : Report → List Byte
  | .sample r => r.payload
  | .event r => r.payload
  | .passReply r => r.payload

end Sys2Proof.Machine
end

