-- ==== Sys2Proof/Machine/Nodes.lean ====
section
/-! DEFINITION. The Node Table: taking a reply (section 1.2) and ageing (section 1.3). -/

namespace Sys2Proof.Machine

/-- R9: saturation to the signed 16-bit range. -/
def saturate (x : Int) : Int := max (-32768) (min 32767 x)

/-- R9: the engineering value of a raw value: product, floor of a 4096th, sum, saturation. -/
def convert (gain offset raw : Int) : Int := saturate ((raw * gain).fdiv 4096 + offset)

/-- R8: the reply carries a fresh value. -/
def Status.fresh (s : Status) : Bool := !s.busy && !s.fault

/-- R10: the value lies in the node's valid range, both bounds included. -/
def inRange (c : NodeCfg) (v : Int) : Bool := decide (c.low ≤ v) && decide (v ≤ c.high)

/-- R9: the engineering value of a reply. -/
def replyEngineering (c : NodeCfg) (r : Reply) : Int := convert c.gain c.offset r.value.toInt

/-- R10: the reply makes an arrival. -/
def arrives (c : NodeCfg) (r : Reply) : Bool := r.status.fresh && inRange c (replyEngineering c r)

/-- R11: the reply adds RANGE to the result record. -/
def outOfRange (c : NodeCfg) (r : Reply) : Bool := r.status.fresh && !inRange c (replyEngineering c r)

/-- R6: the Node Table takes results of POLL, DRIVE and PROBE frames. -/
def FrameKind.taken : FrameKind → Bool
  | .poll => true
  | .drive => true
  | .paramRead => false
  | .paramWrite => false
  | .probe => true

/-- R6: the Node Table takes the result: DONE, a kind it takes, and a node of a kind other than NONE. -/
def takesResult (s : State) (r : ExchangeResult) : Bool :=
  r.outcome == .done && r.kind.taken && s.kindOf r.node != .none

/-- R7: a successful DRIVE. -/
def successfulDrive (r : ExchangeResult) : Bool :=
  r.outcome == .done && r.kind == .drive && !r.conditions.busy && !r.conditions.fault

/-- R7, R10: the node's record after a reply: last raw, last status, last sent (for an actuator, R4) and, at an
arrival, value and age. -/
def recordAfterReply (c : NodeCfg) (n : NodeState) (r : ExchangeResult) (reply : Reply) : NodeState :=
  { n with lastRaw := some reply.value.toInt,
           lastStatus := some reply.status,
           lastSent := if successfulDrive r && isActuator c.kind then r.valueSent else n.lastSent,
           value := if arrives c reply then some (replyEngineering c reply) else n.value,
           age := if arrives c reply then 0 else n.age }

/-- R13: the sample report of a result. -/
def sampleReport (c : NodeCfg) (r : ExchangeResult) (reply : Reply) : SampleReport :=
  let drove := isActuator c.kind && r.kind == .drive
  { node := r.node, time := r.time, cycle := r.cycle,
    value := if arrives c reply then some (replyEngineering c reply) else none,
    status := reply.status,
    valueSent := if drove then r.valueSent else none,
    clamped := drove && r.conditions.clamped }

/-- R12: an arrival is handed to the block that owns the node's role (TABLE 1-4). -/
def handArrival (a : Nat) (v : Int) (s : State) : State :=
  match s.outletSection a with
  | some i => if (s.secCfg i).enabled then sectionArrival i v s else s
  | none =>
    if s.cfg.loop.supply = a then supplyArrival v s
    else if s.cfg.loop.ambient = a then ambientArrival v s
    else if s.cfg.loop.ret = a then returnArrival v s
    else s

/-- R7: a successful DRIVE is handed to Flush Accounting first and then to the Frost Guard, with the previous last
sent. -/
def handDrive (a : Nat) (prev new : Option Nat) (s : State) : State :=
  frostTakesDrive a prev new (flushTakesDrive a s)

/-- R6 to R13: the Node Table takes a result, in the order of stage 2 of R82. -/
def takeReply (r : ExchangeResult) (reply : Reply) (s : State) : State :=
  let a := r.node
  let c := s.nodeCfg a
  let prev := (s.node a).lastSent
  let t := s.setNode a (recordAfterReply c (s.node a) r reply)
  let u := if c.report = .every then queueReport (.sample (sampleReport c r reply)) t else t
  let w := if successfulDrive r then handDrive a prev r.valueSent u else u
  if arrives c reply then handArrival a (replyEngineering c reply) w else w

/-- R14: one node ages at a cycle mark. -/
def ageNode (a : Nat) (s : State) : State :=
  if s.kindOf a = .none then s else s.setNode a { s.node a with age := satSucc 255 (s.node a).age }

/-- R14: ageing at a cycle mark. -/
def nodeMark (s : State) : State := forNodes ageNode s

end Sys2Proof.Machine
end

