-- ==== Sys2Proof/Machine/Lanes.lean ====
section
/-! DEFINITION. Lane and node health (sections 4.5 and 4.6). -/

namespace Sys2Proof.Machine

/-- R88 steps 1, 2 and 4, R4: a SILENT node is ACTIVE again: its probe is removed, its countdown and streak set to 0;
`report` queues NODE_REVIVED at step 3. -/
def nodeActive (a : Nat) (report : Bool) (s : State) : State :=
  let t := removeProbe (.node a)
    (s.setNode a { s.node a with health := .active, streak := 0, probeCountdown := 0 })
  checkNode a (if report then inform .nodeRevived (.node a) 0 t else t)

/-- R88, R90: a node's failure streak becomes 0, and a SILENT node becomes ACTIVE. -/
def nodeGood (a : Nat) (s : State) : State :=
  if (s.node a).health = .silent then nodeActive a true s else s.setNode a { s.node a with streak := 0 }

/-- R87, R124: a node becomes SILENT, and its FROST entry is removed, also where it is the failure of a scheduled DRIVE
to the node that brings this about, although R188 keeps the entry whatever the outcome of that DRIVE (log 36). -/
def nodeSilenced (a : Nat) (s : State) : State :=
  removeFrost a
    (raise .nodeSilent (.node a) 0
      (s.setNode a { s.node a with health := .silent, streak := (s.node a).streak + 1,
                                   probeCountdown := s.cfg.linkSet.probeInterval }))

/-- R87: an ordinary exchange with an ACTIVE node has failed with a lane UP. -/
def nodeFailed (a : Nat) (s : State) : State :=
  if (s.nodeCfg a).silence ≤ (s.node a).streak + 1 then nodeSilenced a s
  else s.setNode a { s.node a with streak := (s.node a).streak + 1 }

/-- An exchange other than a node or lane probe (R87). -/
def Origin.ordinary : Origin → Bool
  | .nodeProbe => false
  | .laneProbe => false
  | .slot => true
  | .frost => true
  | .flushStart => true
  | .flushEnd => true
  | .pass => true

/-- R87, R88: stage 1 of R82. An exchange without an attempt, or SKIPPED, changes no health. -/
def healthStage (r : ExchangeResult) (s : State) : State :=
  match r.outcome, r.attempts with
  | .done, _ => nodeGood r.node s
  | .skipped, _ => s
  | .failed, none => s
  | .failed, some _ =>
    if r.origin.ordinary && (s.node r.node).health == .active && !decide s.BothDown then nodeFailed r.node s else s

/-- R84, R90: a DOWN lane becomes UP. -/
def laneUp (l : Lane) (s : State) : State :=
  removeProbe (.lane l)
    (inform .laneUp (.lane l) 0
      (s.setLane l { s.lane l with health := .up, streak := 0, probeCountdown := 0 }))

/-- R84, R90: a lane's failure streak becomes 0, and a DOWN lane becomes UP. -/
def laneGood (l : Lane) (s : State) : State :=
  if (s.lane l).health = .down then laneUp l s else s.setLane l { s.lane l with streak := 0 }

/-- R84: a successful attempt with a node on a lane. -/
def attemptSucceeded (l : Lane) (a : Nat) (s : State) : State :=
  laneGood l (s.withXe { s.xe with lastGood := a })

/-- R76: count a failed attempt by its transfer error. -/
def LaneState.count (e : TransferError) (x : LaneState) : LaneState :=
  match e with
  | .noReply => { x with noReply := satSucc 65535 x.noReply }
  | .badFrame => { x with badFrame := satSucc 65535 x.badFrame }
  | .wrongNode => { x with wrongNode := satSucc 65535 x.wrongNode }
  | .wrongKind => { x with wrongKind := satSucc 65535 x.wrongKind }

/-- R83: a failed attempt on a lane. At a streak of 8 an UP lane becomes DOWN, with its probe countdown loaded
with 1. -/
def attemptFailed (l : Lane) (e : TransferError) (s : State) : State :=
  let x := (s.lane l).count e
  let streak := satSucc 8 x.streak
  if x.health = .up ∧ streak = 8 then
    raise .laneDown (.lane l) 0 (s.setLane l { x with streak := streak, health := .down, probeCountdown := 1 })
  else s.setLane l { x with streak := streak }

/-- R85: a DOWN lane's countdown reaches 0: its probe is posted and the countdown reloaded. -/
def laneProbeDue (l : Lane) (s : State) : State :=
  postProbe (.lane l) (s.setLane l { s.lane l with probeCountdown := s.cfg.linkSet.probeInterval })

/-- R85: one lane at a cycle mark. -/
def markLane (l : Lane) (s : State) : State :=
  if (s.lane l).health = .up then s
  else if (s.lane l).probeCountdown ≤ 1 then laneProbeDue l s
  else s.setLane l { s.lane l with probeCountdown := (s.lane l).probeCountdown - 1 }

/-- R89: a SILENT node's countdown reaches 0: its probe is posted and the countdown reloaded. -/
def nodeProbeDue (a : Nat) (s : State) : State :=
  postProbe (.node a) (s.setNode a { s.node a with probeCountdown := s.cfg.linkSet.probeInterval })

/-- R89: one node at a cycle mark. -/
def markNodeProbe (a : Nat) (s : State) : State :=
  if (s.node a).health = .active then s
  else if (s.node a).probeCountdown ≤ 1 then nodeProbeDue a s
  else s.setNode a { s.node a with probeCountdown := (s.node a).probeCountdown - 1 }

/-- R85, R89: what the Exchange Engine does at a cycle mark: lane A, lane B, then the nodes in address order. -/
def probeMark (s : State) : State := forNodes markNodeProbe (markLane .b (markLane .a s))

end Sys2Proof.Machine
end

