-- ==== Sys2Proof/Machine/Walk.lean ====
section
/-! DEFINITION. The Bus Sequencer's own moves that other blocks bring about: entering IDLE or HALTED (R98, R105), going
on to a slot, and closing a window (R134). A move to a slot is left in `resume`; the walk is made in
Machine/Settle.lean. -/

namespace Sys2Proof.Machine

/-- R98: what every entry into IDLE or HALTED does. The current slot is left. -/
def Sequencer.rest (q : Sequencer) (st : SeqState) : Sequencer :=
  { q with state := st, activity := .none, ret := none, timer := .idle, timerLeft := 0, wait := 0, chain := 0,
           resume := none }

/-- R98: the sequencer enters IDLE. -/
def enterIdle (s : State) : State := s.withSeq (s.seq.rest .idle)

/-- R105: a check halts the sequencer at its current slot. -/
def halt (cause : HaltCause) (s : State) : State :=
  let at_ := s.seq.current
  raise .seqHalt (.slot at_) (codeIn haltCauses cause)
    (s.withSeq { s.seq.rest .halted with haltCause := cause, haltSlot := at_ })

/-- 5.5.1: the slot after slot `i`. -/
def nextSlot (i : Nat) : Nat := if i = 255 then 0 else i + 1

/-- The walk goes to slot `i`: the activity ends and the slot is reached next. -/
def goTo (i : Nat) (s : State) : State := s.withSeq { s.seq with activity := .none, resume := some i }

/-- The walk goes on to the next slot. -/
def goOn (s : State) : State := goTo (nextSlot s.seq.current) s

/-- R134: the window record is set to closed. -/
def clearWindow (s : State) : State := s.withArb { s.arb with window := .closed, due := false }

/-- R134: the arbiter closes the window and hands the walk back; R102: a STOPPING sequencer enters IDLE instead of
going on. -/
def closeWindow (s : State) : State :=
  let t := clearWindow s
  match t.seq.state with
  | .running => goOn t
  | .stopping => enterIdle t
  | .idle => t
  | .halted => t

/-- R100, R99: the sequencer's fields at a START or at a restart, with slot `i` to be reached. -/
def Sequencer.launch (q : Sequencer) (i : Nat) : Sequencer :=
  { q with state := .running, current := i, activity := .none, ret := none, timer := .idle, timerLeft := 0, wait := 0,
           chain := 0, resume := some i }

/-- R100: an accepted START at slot `i`. -/
def startAt (i : Nat) (s : State) : State :=
  s.withSeq { s.seq.launch i with haltCause := .none, haltSlot := 0 }

end Sys2Proof.Machine
end

