-- ==== Sys2Proof/Machine/Exchange.lean ====
section
/-! DEFINITION. One exchange, from its request to the hand-over of its result (sections 4.3 and 4.4, R102, R112,
R136, R137). -/

namespace Sys2Proof.Machine

/-! ## Ending (R81, R82) -/

/-- The conditions of a result record (R81). RANGE is the Node Table's (R11). -/
def resultConditions (outcome : Outcome) (reply : Option Reply) (range clamped : Bool) : Conditions :=
  { transferFail := outcome == .failed, skipped := outcome == .skipped,
    busy := reply.any (·.status.busy), fault := reply.any (·.status.fault),
    localCtl := reply.any (·.status.localCtl), ice := reply.any (·.status.ice),
    range := range, clamped := clamped }

/-- R73: the reply value of an exchange, by its frame kind. -/
def replyValue (kind : FrameKind) (r : Reply) : Int := if kind.taken then r.value.toInt else r.parameter.toInt

/-- What the end of an exchange knows: its outcome, the attempts made, the lane of the last one and the final reply. -/
structure Ending where
  outcome  : Outcome
  attempts : Option Nat
  lastLane : Option Lane
  reply    : Option Reply
  deriving DecidableEq, Repr

/-- An exchange that ends at a check of R77. -/
def Ending.check (o : Outcome) : Ending := { outcome := o, attempts := none, lastLane := none, reply := none }

/-- R81: the completed result record, with RANGE as the Node Table adds it (R11). -/
def resultRecord (s : State) (r : ExchangeRequest) (valueSent : Option Nat) (clamped : Bool) (e : Ending) :
    ExchangeResult :=
  let range := r.kind.taken && s.kindOf r.node != .none && e.reply.any (outOfRange (s.nodeCfg r.node))
  { node := r.node, origin := r.origin, kind := r.kind, valueSent := valueSent, outcome := e.outcome,
    conditions := resultConditions e.outcome e.reply range clamped, attempts := e.attempts, lastLane := e.lastLane,
    replyValue := e.reply.map (replyValue r.kind), time := s.plantTime, cycle := s.seq.cycle }

/-- R112: the walk goes to the target of an EXCHANGE_BRANCH slot if a condition of the result is in its set. -/
def branchTaken (slot : Slot) (c : Conditions) : Bool :=
  slot.kind == .exchangeBranch && (slot.conditions &&& c.octet) != 0

/-- R111 to R113, R102: the sequencer takes the result of its exchange. -/
def slotTakesResult (r : ExchangeResult) (s : State) : State :=
  match s.seq.state with
  | .running =>
    let slot := s.slot s.seq.current
    if branchTaken slot r.conditions then goTo slot.target.toNat s else goOn s
  | .stopping => enterIdle s
  | .idle => s
  | .halted => s

/-- R137: the PASS_REPLY of a PASS exchange that has ended. -/
def passReply (q : ExchangeRequest) (r : ExchangeResult) : PassReply :=
  { tag := q.tag, node := r.node, op := if q.kind = .paramWrite then .paramWrite else .paramRead,
    parameter := q.parameter, outcome := r.outcome, conditions := r.conditions, value := r.replyValue,
    time := r.time, cycle := r.cycle }

/-- R136: the arbiter hands a granted exchange's result on by its origin. -/
def handOn (q : ExchangeRequest) (r : ExchangeResult) (s : State) : State :=
  match q.origin with
  | .flushStart => flushStartResult q.sec r.node (successfulDrive r) s
  | .pass => queueReport (.passReply (passReply q r)) s
  | .slot => s
  | .frost => s
  | .flushEnd => s
  | .nodeProbe => s
  | .laneProbe => s

/-- R136: the window record no longer holds the request as in flight; a stopping window closes, and otherwise the next
decision is due. -/
def requestDone (s : State) : State :=
  let w := { s.arb.window with inFlight := none }
  if s.arb.window.stopping then closeWindow (s.withArb { s.arb with window := w })
  else s.withArb { s.arb with window := w, due := true }

/-- Stage 3 of R82: the requester takes the result. -/
def handResult (q : ExchangeRequest) (r : ExchangeResult) (s : State) : State :=
  if q.origin = .slot then slotTakesResult r s else requestDone (handOn q r s)

/-- R82: the Node Table's stage, for a result it takes. -/
def nodeStage (r : ExchangeResult) (reply : Option Reply) (s : State) : State :=
  match reply with
  | some p => if takesResult s r then takeReply r p s else s
  | none => s

/-- R82: the three stages at the end of an exchange, after which no exchange is in flight. -/
def endExchange (q : ExchangeRequest) (valueSent : Option Nat) (clamped : Bool) (e : Ending) (s : State) : State :=
  let r := resultRecord s q valueSent clamped e
  let t := nodeStage r e.reply (healthStage r (s.withXe { s.xe with lastResult := some r }))
  handResult q r (t.withXe { t.xe with flight := none })

/-! ## Beginning (R77) -/

/-- R77: the checks of TABLE 4-4, in order. -/
def requestCheck (s : State) (q : ExchangeRequest) : Option Outcome :=
  let kind := s.kindOf q.node
  let aperiodic := q.origin != .slot && q.origin != .laneProbe
  let flushOrFrost := q.origin == .frost || q.origin == .flushStart || q.origin == .flushEnd
  if aperiodic ∧ kind = .none then some .skipped
  else if q.kind = .drive ∧ isActuator kind = false ∧ flushOrFrost then some .skipped
  else if (s.node q.node).health = .silent ∧ q.origin.ordinary then some .skipped
  else if q.origin = .laneProbe ∧ q.node = 0 then some .skipped
  else if s.BothDown ∧ q.origin ≠ .laneProbe then some .failed
  else none

/-- R45, R60: the value before limits of a DRIVE. -/
def valueBeforeLimits (s : State) (q : ExchangeRequest) : Nat :=
  if q.origin = .flushStart then 1000 else demandSource s q.node

/-- The payload of a command frame (TABLE 4-2). -/
def framePayload (q : ExchangeRequest) (valueSent : Nat) : List Byte :=
  match q.kind with
  | .poll => []
  | .drive => natOctets valueSent
  | .paramRead => [q.parameter]
  | .paramWrite => q.parameter :: wordOctets q.value
  | .probe => []

/-- R77, R45, R46: the exchange with its frame built, before its first attempt. -/
def builtFlight (s : State) (q : ExchangeRequest) : Flight :=
  let before := valueBeforeLimits s q
  let sent := clampDrive s q.node before
  let isDrive := q.kind == .drive
  { request := q, frame := commandFrame q.node q.kind (framePayload q sent),
    valueSent := if isDrive then some sent else none, clamped := isDrive && sent != before,
    attempt := 1, lane := q.lane, phase := .idle, octets := [], frameLeft := 0, replyLeft := 0, gapLeft := 0,
    windowLeft := 0 }

/-- One octet time on a lane in µs (0.5.4.1). -/
def octetTime : Nat := 40

/-- The lane idle time in µs (R74). -/
def idleTime : Nat := 120

/-- R78, R79: the lane of attempt `n`: the slot lane, or the other lane for an even attempt of an alternating slot, and
the other of these if it is DOWN; none if both are DOWN. A lane probe goes on the lane it probes. -/
def attemptLane (s : State) (q : ExchangeRequest) (n : Nat) : Option Lane :=
  if q.origin = .laneProbe then some q.lane
  else
    let want := if q.alternate ∧ n % 2 = 0 then other q.lane else q.lane
    if (s.lane want).health = .up then some want
    else if (s.lane (other want)).health = .up then some (other want)
    else none

/-- R74: an attempt begins on a lane. When the idle time is already over the command frame is sent at once. -/
def beginAttempt (f : Flight) (n : Nat) (l : Lane) (s : State) : State :=
  s.withXe { s.xe with
    flight := some { f with attempt := n, lane := l, phase := if s.xe.idleLeft = 0 then .sending else .idle,
                            octets := [], frameLeft := octetTime * f.frame.length, replyLeft := 0, gapLeft := 0,
                            windowLeft := 0 } }

/-- R78: attempt `n` of an exchange, or its end where both lanes are DOWN. -/
def makeAttempt (f : Flight) (n : Nat) (s : State) : State :=
  match attemptLane s f.request n with
  | some l => beginAttempt f n l s
  | none =>
    endExchange f.request f.valueSent f.clamped
      { outcome := .failed, attempts := if n ≤ 1 then none else some (n - 1),
        lastLane := if n ≤ 1 then none else some f.lane, reply := none } s

/-- R77: an exchange is requested: it ends at a check, or its frame is built and its first attempt made. -/
def beginExchange (q : ExchangeRequest) (s : State) : State :=
  match requestCheck s q with
  | some o => endExchange q none false (.check o) s
  | none =>
    let f := builtFlight s q
    makeAttempt f 1 (if f.clamped then countClamp q.node s else s)

/-! ## One attempt (R74, R75) -/

/-- R78: attempts allowed: one and the slot's retries. -/
def attemptsAllowed (q : ExchangeRequest) : Nat := q.retries + 1

/-- The end of an exchange at its current attempt. -/
def Ending.ofFlight (f : Flight) (o : Outcome) (reply : Option Reply) : Ending :=
  { outcome := o, attempts := some f.attempt, lastLane := some f.lane, reply := reply }

/-- R74: the idle time is counted anew from the end of an attempt. -/
def startIdleTime (s : State) : State := s.withXe { s.xe with idleLeft := idleTime }

/-- R78, R81: after an attempt that does not end the exchange, the next one; with no retry left, the end. -/
def retryOrEnd (f : Flight) (o : Outcome) (reply : Option Reply) (s : State) : State :=
  if f.attempt < attemptsAllowed f.request then makeAttempt f (f.attempt + 1) s
  else endExchange f.request f.valueSent f.clamped (.ofFlight f o reply) s

/-- R75, R83: the attempt under way ends with a transfer error. -/
def failAttempt (f : Flight) (e : TransferError) (s : State) : State :=
  retryOrEnd f .failed none (attemptFailed f.lane e (startIdleTime s))

/-- R80: the reply's status holds a retry condition of the slot's set. Only BUSY, FAULT, LOCAL and ICE act, which are
bits 2 to 5 of the set. -/
def retryWanted (q : ExchangeRequest) (st : Status) : Bool :=
  (st.busy && q.retryOn.getLsbD 2) || (st.fault && q.retryOn.getLsbD 3) || (st.localCtl && q.retryOn.getLsbD 4)
    || (st.ice && q.retryOn.getLsbD 5)

/-- R75, R80, R84: the attempt under way ends with a valid reply. -/
def succeedAttempt (f : Flight) (reply : Reply) (s : State) : State :=
  let t := attemptSucceeded f.lane f.request.node (startIdleTime s)
  if retryWanted f.request reply.status then retryOrEnd f .done (some reply) t
  else endExchange f.request f.valueSent f.clamped (.ofFlight f .done (some reply)) t

/-- R75: the seventh octet has arrived. -/
def judgeAttempt (f : Flight) (octets : List Byte) (s : State) : State :=
  match judgeReply f.request.node f.request.kind octets with
  | .inl e => failAttempt f e s
  | .inr reply => succeedAttempt f reply s

/-- An attempt is waiting for a reply or receiving one (R75, R76). -/
def Flight.listening (f : Flight) : Bool := f.phase == .waiting || f.phase == .receiving

/-- R75: a reply octet without error is held; at the seventh the reply is judged. The 360 µs run from the start of the
first octet, one octet time before its end. -/
def takeReplyOctet (f : Flight) (b : Byte) (s : State) : State :=
  let octets := f.octets ++ [b]
  if octets.length = 7 then judgeAttempt f octets s
  else
    s.withXe { s.xe with
      flight := some { f with phase := .receiving, octets := octets, replyLeft := 0, gapLeft := octetTime,
                              windowLeft := if f.phase = .waiting then 8 * octetTime else f.windowLeft } }

/-- R92: the exchange in flight is abandoned with no result. The cut-off attempt counts for nothing, and the idle time
runs from its end if it had begun to send (log 14). -/
def abandonExchange (s : State) : State :=
  match s.xe.flight with
  | none => s
  | some f =>
    s.withXe { s.xe with flight := none, idleLeft := if f.phase = .idle then s.xe.idleLeft else idleTime }

end Sys2Proof.Machine
end

