-- ==== Sys2Proof/Machine/Arbiter.lean ====
section
/-! DEFINITION. The Aperiodic Arbiter's decisions and grants (sections 6.3 to 6.5). -/

namespace Sys2Proof.Machine

/-! ## Levels and rings (R126, R127) -/

/-- R127: the head of the FLUSH queue is a mandatory START. -/
def mandatoryHead (a : Arbiter) : Bool :=
  match a.flush with
  | r :: _ => r.kind == .pulseStart && r.mandatory
  | [] => false

/-- R127: the level in effect of a source. ROUTINE GROUP is no source; it stands in the urgent ring. -/
def levelInEffect (s : State) : Position → Level
  | .frost => s.cfg.linkSet.frostLevel
  | .flush => if mandatoryHead s.arb then .urgent else s.cfg.linkSet.flushLevel
  | .pass => s.cfg.linkSet.passLevel
  | .probe => s.cfg.linkSet.probeLevel
  | .group => .urgent

/-- The queue of a source holds an entry. -/
def sourceFull (a : Arbiter) : Position → Bool
  | .frost => !a.frost.isEmpty
  | .flush => !a.flush.isEmpty
  | .pass => !a.pass.isEmpty
  | .probe => !a.probe.isEmpty
  | .group => false

/-- The sources in their fixed order. -/
def sources : List Position := [.frost, .flush, .pass, .probe]

/-- A pending member of the routine ring (R127). -/
def routinePending (s : State) (p : Position) : Bool :=
  p != .group && levelInEffect s p == .routine && sourceFull s.arb p

/-- A pending member of the urgent ring (R127). -/
def urgentPending (s : State) (p : Position) : Bool :=
  if p = .group then sources.any (routinePending s) else levelInEffect s p == .urgent && sourceFull s.arb p

/-- The positions of `order` after `p`, wrapping, with `p` itself last (R128). -/
def searchFrom (order : List Position) (p : Position) : List Position :=
  order.drop (order.idxOf p + 1) ++ order.take (order.idxOf p + 1)

/-- A candidate: the source whose head it is, and whether it is reached through ROUTINE GROUP. -/
structure Candidate where
  source   : Position
  viaGroup : Bool
  deriving DecidableEq, Repr

/-- R128: the decision's search. -/
def findCandidate (s : State) : Option Candidate :=
  match (searchFrom positions s.arb.urgent).find? (urgentPending s) with
  | none => none
  | some .group =>
    match (searchFrom sources s.arb.routine).find? (routinePending s) with
    | some p => some { source := p, viaGroup := true }
    | none => none
  | some p => some { source := p, viaGroup := false }

/-! ## Budgets (R130) -/

/-- The frame kind a queue's head would send (TABLE 6-3). -/
def headFrame (a : Arbiter) : Position → FrameKind
  | .frost => .drive
  | .flush => .drive
  | .pass =>
    match a.pass with
    | r :: _ => if r.op = .paramWrite then .paramWrite else .paramRead
    | [] => .paramRead
  | .probe => .probe
  | .group => .probe

/-- R71: the response timeout in µs. -/
def responseTimeout (s : State) : Nat := 10 * s.cfg.linkSet.responseTimeout

/-- R130: (c + 7) × 40 µs + t + 120 µs. -/
def budget (s : State) (p : Position) : Nat :=
  ((headFrame s.arb p).length + 7) * octetTime + responseTimeout s + idleTime

/-- R131: the time left in the window. -/
def timeLeft (s : State) : Nat :=
  match s.arb.window.kind with
  | .fixed => s.arb.window.length - s.arb.window.elapsed
  | .runToEnd => if s.seq.timer = .counting then s.seq.timerLeft else 0

/-! ## Grants (R129, R132) -/

/-- R129: a grant moves the pointers. -/
def movePointers (c : Candidate) (a : Arbiter) : Arbiter :=
  if c.viaGroup then { a with urgent := .group, routine := c.source } else { a with urgent := c.source }

/-- An aperiodic exchange makes one attempt, on the node's preferred lane (R79). -/
def aperiodic (s : State) (origin : Origin) (a : Nat) (kind : FrameKind) : ExchangeRequest :=
  { origin := origin, node := a, kind := kind, lane := (s.nodeCfg a).lane, retries := 0, alternate := false,
    retryOn := 0, sec := 0, tag := 0, parameter := 0, value := 0 }

/-- R85: the target node of a lane probe, 0 where no node has a kind other than NONE. -/
def probeTarget (s : State) : Nat :=
  if s.xe.lastGood ≠ 0 ∧ s.kindOf s.xe.lastGood ≠ .none then s.xe.lastGood
  else (nodeAddresses.find? fun a => s.kindOf a != .none).getD 0

/-- TABLE 6-4: the exchange of a FLUSH request. -/
def flushExchange (s : State) (r : FlushRequest) : ExchangeRequest :=
  let origin := match r.kind with
    | .pulseStart => Origin.flushStart
    | .pulseEnd => Origin.flushEnd
  { aperiodic s origin (s.secCfg r.sec).valve .drive with sec := r.sec }

/-- TABLE 6-4: the exchange of a PASS request. -/
def passExchange (s : State) (r : PassRequest) : ExchangeRequest :=
  { aperiodic s .pass r.node (match r.op with
      | .paramRead => .paramRead
      | .paramWrite => .paramWrite) with
    tag := r.tag, parameter := r.parameter, value := r.value }

/-- TABLE 6-4: the exchange of a probe. -/
def probeExchange (s : State) : ProbeTarget → ExchangeRequest
  | .node a => aperiodic s .nodeProbe a .probe
  | .lane l => { aperiodic s .laneProbe (probeTarget s) .probe with lane := l }

/-- R132: the arbiter requests an exchange, recorded in the window record as in flight. -/
def requestExchange (q : ExchangeRequest) (s : State) : State :=
  beginExchange q (s.withArb { s.arb with window := { s.arb.window with inFlight := some q.origin } })

/-- R132: a FLUSH request goes through Flush Accounting's checks first; one that fails them ends SKIPPED, and the next
decision is due. -/
def grantFlush (r : FlushRequest) (s : State) : State :=
  if flushGrantPasses s r then requestExchange (flushExchange s r) s
  else
    let t := flushGrantSkipped r s
    t.withArb { t.arb with due := true }

/-- R132: the candidate is granted: its head leaves the queue, the pointers move, and it is acted on. -/
def grant (c : Candidate) (s : State) : State :=
  let t := s.withArb (movePointers c s.arb)
  match c.source with
  | .frost =>
    match t.arb.frost with
    | a :: rest => requestExchange (aperiodic t .frost a .drive) (t.withArb { t.arb with frost := rest })
    | [] => t
  | .flush =>
    match t.arb.flush with
    | r :: rest => grantFlush r (t.withArb { t.arb with flush := rest })
    | [] => t
  | .pass =>
    match t.arb.pass with
    | r :: rest => requestExchange (passExchange t r) (t.withArb { t.arb with pass := rest })
    | [] => t
  | .probe =>
    match t.arb.probe with
    | p :: rest => requestExchange (probeExchange t p) (t.withArb { t.arb with probe := rest })
    | [] => t
  | .group => t

/-- R131 to R134: one decision of an open window that is not stopping. -/
def decision (s : State) : State :=
  match findCandidate s with
  | some c => if budget s c.source ≤ timeLeft s then grant c s else closeWindow s
  | none =>
    match s.arb.window.kind with
    | .fixed => closeWindow s
    | .runToEnd => if timeLeft s = 0 then closeWindow s else s

/-- R131: a decision that is due is made, if the window is open, not stopping and nothing is in flight. -/
def makeDecision (s : State) : State :=
  let t := s.withArb { s.arb with due := false }
  let w := t.arb.window
  if w.isOpen ∧ w.stopping = false ∧ w.inFlight = none then decision t else t

end Sys2Proof.Machine
end

