-- ==== Sys2Proof/Machine/Sequencer.lean ====
section
/-! DEFINITION. The Bus Sequencer reaching a slot, and the cycle mark (sections 5.5 to 5.8). -/

namespace Sys2Proof.Machine

/-- A slot that takes time (R94). -/
def isTimed : SlotKind → Bool
  | .mark => true
  | .exchange => true
  | .exchangeBranch => true
  | .retryOn => true
  | .gap => true
  | .window => true
  | .jump => false
  | .call => false
  | .ret => false
  | .note => false
  | .stop => false

/-- An untimed slot (R94). STOP is neither timed nor untimed. -/
def isUntimed : SlotKind → Bool
  | .jump => true
  | .call => true
  | .ret => true
  | .note => true
  | .mark => false
  | .exchange => false
  | .exchangeBranch => false
  | .retryOn => false
  | .gap => false
  | .window => false
  | .stop => false

/-- An exchange slot. -/
def isExchange : SlotKind → Bool
  | .exchange => true
  | .exchangeBranch => true
  | .retryOn => true
  | .mark => false
  | .gap => false
  | .window => false
  | .jump => false
  | .call => false
  | .ret => false
  | .note => false
  | .stop => false

/-- The frame of an exchange slot (TABLE 5-1: POLL 0, DRIVE 1). -/
def slotFrame (x : Slot) : FrameKind := if x.frame = 1 then .drive else .poll

/-- The lane of an exchange slot. -/
def slotLane (x : Slot) : Lane := (valueOf lanes x.lane).getD .a

/-- R104: the checks of TABLE 5-4, in order. -/
def haltCheck (s : State) (x : Slot) : Option HaltCause :=
  if isUntimed x.kind ∧ s.seq.chain = 63 then some .runaway
  else if x.kind = .call ∧ s.seq.ret ≠ none then some .nestedCall
  else if x.kind = .ret ∧ s.seq.ret = none then some .emptyReturn
  else if isExchange x.kind ∧ s.kindOf x.node.toNat = .none then some .badSlot
  else if isExchange x.kind ∧ slotFrame x = .drive ∧ s.kindOf x.node.toNat = .sensor then some .badSlot
  else none

/-! ## The cycle mark (R108 to R110) -/

/-- R109: the cycle mark is announced to the Node Table, the Frost Guard, Flush Accounting and the Exchange Engine. -/
def announceMark (s : State) : State := probeMark (flushMark (frostMark (nodeMark s)))

/-- R110: a MARK that passes with the timer LAPSED counts an overrun. -/
def countOverrun (s : State) : State :=
  raise .overrun (.slot s.seq.current) 0 (s.withSeq { s.seq with overruns := satSucc 65535 s.seq.overruns })

/-- R108: the MARK at the current slot passes: the timer is loaded, the cycle number incremented, any overrun counted,
the mark announced, and the walk goes on. -/
def passMark (late : Bool) (s : State) : State :=
  let x := s.slot s.seq.current
  let t := s.withSeq { s.seq with timer := .counting, timerLeft := 100 * x.time.toNat, cycle := s.seq.cycle + 1 }
  goOn (announceMark (if late then countOverrun t else t))

/-- R108: a MARK slot that is reached. -/
def reachMark (s : State) : State :=
  match s.seq.timer with
  | .idle => passMark false s
  | .counting => s.withSeq { s.seq with activity := .markWait }
  | .due => passMark false s
  | .lapsed => passMark true s

/-! ## Slots -/

/-- R107: a timed slot other than a MARK begun while the timer is DUE makes it LAPSED. -/
def lapse (q : Sequencer) : Sequencer := if q.timer = .due then { q with timer := .lapsed } else q

/-- R111, R113: the request of an exchange slot. -/
def slotRequest (x : Slot) : ExchangeRequest :=
  { origin := .slot, node := x.node.toNat, kind := slotFrame x, lane := slotLane x, retries := x.retries.toNat,
    alternate := (valueOf yesNo x.alternate).getD false, retryOn := if x.kind = .retryOn then x.conditions else 0,
    sec := 0, tag := 0, parameter := 0, value := 0 }

/-- R111 to R113: an exchange slot that is reached. -/
def reachExchange (x : Slot) (s : State) : State :=
  beginExchange (slotRequest x) (s.withSeq { lapse s.seq with activity := .exchange })

/-- R114: a GAP slot that is reached. -/
def reachGap (x : Slot) (s : State) : State :=
  s.withSeq { lapse s.seq with activity := .gapWait, wait := 100 * x.time.toNat }

/-- R115, R131: a WINDOW slot that is reached opens a window, and the first decision is due. -/
def reachWindow (x : Slot) (s : State) : State :=
  let w : Window :=
    if x.time = 0 then
      { isOpen := true, kind := .runToEnd, length := if s.seq.timer = .counting then s.seq.timerLeft else 0,
        elapsed := 0, stopping := false, inFlight := none }
    else
      { isOpen := true, kind := .fixed, length := 100 * x.time.toNat, elapsed := 0, stopping := false,
        inFlight := none }
  (s.withSeq { lapse s.seq with activity := .window }).withArb { s.arb with window := w, due := true }

/-- R118: a CALL slot acts. -/
def reachCall (x : Slot) (s : State) : State :=
  goTo x.target.toNat (s.withSeq { s.seq with ret := some (nextSlot s.seq.current) })

/-- R119: a RETURN slot acts. -/
def reachReturn (s : State) : State :=
  match s.seq.ret with
  | some i => goTo i (s.withSeq { s.seq with ret := none })
  | none => s

/-- A slot that has passed the checks acts as its kind requires. -/
def actSlot (x : Slot) (s : State) : State :=
  match x.kind with
  | .mark => reachMark s
  | .exchange => reachExchange x s
  | .exchangeBranch => reachExchange x s
  | .retryOn => reachExchange x s
  | .gap => reachGap x s
  | .window => reachWindow x s
  | .jump => goTo x.target.toNat s
  | .call => reachCall x s
  | .ret => reachReturn s
  | .note => goOn (raise .note (.note x.note) 0 s)
  | .stop => enterIdle s

/-- R106: the chain counter at a slot that has passed the checks. -/
def chainAfter (k : SlotKind) (chain : Nat) : Nat :=
  if isTimed k then 0 else if isUntimed k then chain + 1 else chain

/-- R104, R106: the sequencer reaches slot `i`. -/
def reachSlot (i : Nat) (s : State) : State :=
  let x := s.slot i
  let t := s.withSeq { s.seq with current := i, resume := none }
  match haltCheck t x with
  | some cause => halt cause t
  | none => actSlot x (t.withSeq { t.seq with chain := chainAfter x.kind t.seq.chain })

end Sys2Proof.Machine
end

