-- ==== Sys2Proof/Machine/Settle.lean ====
section
/-! DEFINITION. What follows a command within the same command: a decision of the arbiter that is due, and the walk to
the next slot, until the sequencer stands at a slot that takes time. -/

namespace Sys2Proof.Machine

/-- One move: the decision that is due, or the reach of the slot the walk goes to; none where neither is pending. -/
def settleOnce (s : State) : Option State :=
  if s.arb.due then some (makeDecision s)
  else
    match s.seq.resume with
    | some i => some (reachSlot i s)
    | none => none

/-- At most `n` moves. -/
def settleFor : Nat → State → State
  | 0, s => s
  | n + 1, s =>
    match settleOnce s with
    | some t => settleFor n t
    | none => s

/-- How many moves are made within one command. A walk through slots that take no time at all, such as a branch back to
itself on a SILENT node (R112), goes on at the next step (log 5). -/
def settleBound : Nat := 1024

/-- What follows a command within it. -/
def settle (s : State) : State := settleFor settleBound s

end Sys2Proof.Machine
end

