-- ==== Sys2Proof/Machine/Link.lean ====
section
/-! DEFINITION. The Link Unit (Chapter 8) but for its receiver: the settings and timers (R163, R164, R166), the
transmitter (R165), the report stream (R167, R169), the link reset (R170), and the supervision mode (Chapter 7). -/

namespace Sys2Proof.Machine

/-! ## Settings and timers (R163, R164, R166) -/

/-- R163: the LINK_SET values the Link Unit uses: the defaults while the part is STARTING. -/
def linkSettings (s : State) : LinkSet := if s.Starting then defaultLinkSet else s.cfg.linkSet

/-- R163: the link timeout in µs. -/
def linkTimeout (s : State) : Nat := 100000 * (linkSettings s).linkTimeout

/-- R163: the fill interval in µs. -/
def fillInterval (s : State) : Nat := 10000 * (linkSettings s).fillInterval

/-! ## Mode (R144 to R147) -/

/-- The causes of a change of mode, whose codes stand from 1 (TABLE 8-8). -/
inductive ModeCause
  | linkLost | hold | resume
  deriving DecidableEq, Repr

/-- The detail octet of a MODE report (TABLE 8-8). -/
def ModeCause.code : ModeCause → Byte
  | .linkLost => 1
  | .hold => 2
  | .resume => 3

/-- R147: the mode changes and a MODE report is queued. -/
def changeMode (m : Mode) (cause : ModeCause) (s : State) : State := inform .mode (.mode m) cause.code (s.withMode m)

/-- R144: the loss of the link reaches the start-up and hold logic. -/
def takeLinkLoss (s : State) : State :=
  if s.cfg.linkSet.autoHold = .on ∧ s.mode = .supervised then changeMode .autonomous .linkLost s else s

/-- R164: the link timer expires. -/
def loseLink (s : State) : State :=
  takeLinkLoss (raise .linkLost .none 0 (s.withLu { s.lu with link := .lost, linkTimer := none }))

/-! ## Transmitter (R165, R166) -/

/-- The FILL payload (R166, TABLE 8-7). The two octets of the flags, a set, go most significant octet first (log 34). -/
def fillPayload (s : State) : List Byte :=
  longOctets s.plantTime ++ wordOctets s.seq.cycle
    ++ [codeIn modes s.mode, codeIn seqStates s.seq.state, codeIn storeStates s.store.state,
        natOctet s.lu.reports.length]
    ++ wordOctets (s.eu.flags.setWidth 16)

/-- R165, R166: the transmitter starts a frame, and the fill timer stops. -/
def sendFrame (f : TxFrame) (u : LinkUnit) : LinkUnit := { u with tx := some f, fillTimer := none }

/-- R165: the frame of a response. -/
def responseFrame (r : Response) : TxFrame :=
  { octets := linkFrame kindResponse r.tag r.payload, powerOn := r.powerOn }

/-- R165: the frame of a report, with the report sequence number it carries. -/
def reportFrame (r : Report) (seqNo : Byte) : TxFrame := { octets := linkFrame r.kind seqNo r.payload, powerOn := false }

/-- R165: a free transmitter chooses its next frame, as the Link Unit stands: the head of the response queue, or else
the head of the report queue while the stream is SEND. -/
def chooseFrame (u : LinkUnit) : LinkUnit :=
  match u.responses, u.stream, u.reports with
  | r :: rest, _, _ => sendFrame (responseFrame r) { u with responses := rest }
  | [], .send, r :: rest =>
    sendFrame (reportFrame r (u.seqNo + 1)) { u with reports := rest, seqNo := u.seqNo + 1 }
  | [], .send, [] => u
  | [], .off, _ => u
  | [], .hold, _ => u

/-- R165: the transmitter chooses a frame if it is free. -/
def txStart (s : State) : State := if s.lu.tx = none then s.withLu (chooseFrame s.lu) else s

/-- R166: a FILL frame is built and started. -/
def startFill (s : State) : State :=
  s.withLu (sendFrame { octets := linkFrame kindFill s.lu.seqNo (fillPayload s), powerOn := false } s.lu)

/-- R166: the fill timer expires with the transmitter idle. -/
def fillExpiry (s : State) : State := if s.lu.fillTimer ≠ none ∧ s.lu.tx = none then startFill s else s

/-- The end of a command: what follows within it is taken, and then the transmitter chooses, so that a response goes
before every report the command queued (R165, R180). -/
def finish (s : State) : State := txStart (settle s)

/-! ## The report stream and the resets of the link -/

/-- R167: the REPORTS command. -/
def setStream (x : Stream) (s : State) : State :=
  s.withLu { s.lu with stream := x, reports := if x = .off then [] else s.lu.reports }

/-- R169: the CLEAR command. -/
def clearReports (s : State) : State := s.withLu { s.lu with reports := [] }

/-- R170, TABLE 8-2: a link reset. -/
def linkReset (s : State) : State :=
  s.withLu { s.lu with rx := .hunting, link := .up, linkTimer := some (linkTimeout s), responses := [], reports := [],
                       stream := .hold, seqNo := 0, counters := .zero }

/-! ## A valid frame is taken (R162) -/

/-- Capacity of the response queue (R162). -/
def responseCapacity : Nat := 4

/-- What the Request Decoder gives for a request: a result code, the data of TABLE 8-6, and whether the power-on of a
RESET FULL waits for the end of the response. -/
structure Answer where
  code    : ResultCode
  data    : List Byte
  powerOn : Bool
  deriving DecidableEq, Repr

/-- An answer after which nothing more happens. -/
def Answer.plain (code : ResultCode) (data : List Byte) : Answer := { code := code, data := data, powerOn := false }

/-- The outcome of executing a request: the state and the answer, none where a power-on taken within it has left
nothing to answer. -/
abbrev Served := State × Option Answer

/-- R162 step 1, R171: the valid frame is counted, the link timer loaded, and a LOST link comes UP. The receiver drops
the frame's octets and enters HUNT (R160) before the frame is executed, so that a PART_STATE read shows HUNT
(log 35). -/
def linkTaken (s : State) : State :=
  let t := s.withLu { s.lu with rx := .hunting, linkTimer := some (linkTimeout s), link := .up,
                                counters := { s.lu.counters with valid := satSucc 65535 s.lu.counters.valid } }
  if s.lu.link = .lost then inform .linkUp .none 0 t else t

/-- R162 step 2: the frame is discarded for want of room. -/
def discardRequest (s : State) : State :=
  s.withLu { s.lu with counters := { s.lu.counters with discarded := satSucc 65535 s.lu.counters.discarded } }

/-- R162 step 4: the response is placed at the tail of the response queue. -/
def respond (kind tag : Byte) (a : Answer) (s : State) : State :=
  s.withLu { s.lu with responses := s.lu.responses ++
    [{ tag := tag, kind := kind, code := a.code, data := a.data, powerOn := a.powerOn }] }

/-- R162: a valid frame is taken, and `execute` serves it. -/
def takeValid (kind tag : Byte) (execute : State → Served) (s : State) : State :=
  let t := linkTaken s
  if responseCapacity ≤ t.lu.responses.length then discardRequest t
  else
    match execute t with
    | (u, some a) => respond kind tag a u
    | (u, none) => u

/-- R162 step 3, R154: a request of a downward kind is served by `body`, but while the part is STARTING it is answered
NOT_NOW with the data `idle`. -/
def whileServed (idle : List Byte) (body : State → Served) (s : State) : Served :=
  if s.Starting then (s, some (.plain .notNow idle)) else body s

/-- A request row: the valid frame that carries it is taken whole, and then the transmitter chooses. -/
def request (kind tag : Byte) (idle : List Byte) (body : State → Served) (s : State) : State :=
  finish (takeValid kind tag (whileServed idle body) s)

/-- A request answered with no effect. -/
def refuse (code : ResultCode) (data : List Byte) (s : State) : Served := (s, some (.plain code data))

end Sys2Proof.Machine
end

