-- ==== Sys2Proof/Machine/Reads.lean ====
section
/-! DEFINITION. TABLE_READ (R177) and the four read-only tables (R178, TABLE 9-4). -/

namespace Sys2Proof.Machine

/-! ## Read-only entries (R178) -/

/-- Presence octet and code of a status (R178). -/
def statusOctets : Option Status → List Byte
  | some x => [1, x.octet]
  | none => [0, 0]

/-- NODE_STATE (TABLE 9-4). -/
def nodeStateOctets (n : NodeState) : List Byte :=
  optIntOctets n.value ++ [natOctet n.age] ++ optIntOctets n.lastRaw ++ statusOctets n.lastStatus
    ++ optNatOctets n.lastSent ++ [codeIn healths n.health, natOctet n.streak, natOctet n.probeCountdown]

/-- R54: the whole seconds remaining on a timer counted in ms, 0 while it is stopped. -/
def secondsLeft : Option Nat → Nat
  | some ms => ms / 1000
  | none => 0

/-- SECTION_STATE (TABLE 9-4). -/
def sectionStateOctets (x : SectionState) : List Byte :=
  natOctets x.ceiling ++ natOctets x.fanCeiling ++ natOctets x.valveFloor ++ [codeIn sights x.sight, natOctet x.transient]
    ++ natOctets x.clamps ++ [codeIn flows x.flow] ++ intOctets x.balance ++ natOctets (secondsLeft x.interval)
    ++ natOctets (secondsLeft x.flushTimer) ++ natOctets x.overdues ++ [codeIn yesNo x.blocked]

/-- "set, clear" (TABLE 2-4). -/
def setClear : List Bool := [true, false]

/-- LOOP_STATE (TABLE 9-4). -/
def loopStateOctets (x : LoopState) : List Byte :=
  natOctets x.ceiling ++ [codeIn sights x.supplySight] ++ optIntOctets x.retValue
    ++ [codeIn sights x.retSight, codeIn sights x.ambientSight, codeIn setClear x.deepFrost]

/-- R121, R140: µs in units of 100 µs, truncated. -/
def tenths (us : Nat) : Nat := us / 100

/-- PART_STATE, part group (TABLE 9-4). -/
def partGroup (s : State) : List Byte :=
  longOctets s.plantTime
    ++ [codeIn modes s.mode, codeIn storeStates s.store.state, codeIn imageStates s.store.image]
    ++ wordOctets (s.eu.flags.setWidth 16)

/-- PART_STATE, sequencer group (R121). -/
def sequencerGroup (q : Sequencer) : List Byte :=
  [codeIn seqStates q.state, natOctet q.current, codeIn activities q.activity] ++ optOctet (q.ret.map natOctet)
    ++ [codeIn cycleTimers q.timer] ++ natOctets (tenths q.timerLeft) ++ wordOctets q.cycle ++ [natOctet q.chain]
    ++ natOctets q.overruns ++ [codeIn haltCauses q.haltCause, natOctet q.haltSlot]

/-- One lane of the PART_STATE lanes group (R93). -/
def laneOctets (x : LaneState) : List Byte :=
  [codeIn laneHealths x.health, natOctet x.streak, natOctet x.probeCountdown] ++ natOctets x.noReply
    ++ natOctets x.badFrame ++ natOctets x.wrongNode ++ natOctets x.wrongKind

/-- PART_STATE, lanes group (R93). -/
def lanesGroup (e : ExchangeEngine) : List Byte := laneOctets e.laneA ++ laneOctets e.laneB ++ [natOctet e.lastGood]

/-- R131, R140: the time left in the window, 0 while none is open. -/
def shownTimeLeft (s : State) : Nat := if s.arb.window.isOpen then timeLeft s else 0

/-- "open or closed" and "stopping or not" (R140). -/
def openClosed : List Bool := [true, false]
def stoppingOrNot : List Bool := [true, false]

/-- PART_STATE, arbiter group (R140). -/
def arbiterGroup (s : State) : List Byte :=
  let a := s.arb
  [natOctet a.frost.length, natOctet a.flush.length, natOctet a.pass.length, natOctet a.probe.length,
    codeIn positions a.urgent, codeIn positions a.routine, codeIn openClosed a.window.isOpen,
    codeIn windowKinds a.window.kind]
    ++ natOctets (tenths (shownTimeLeft s)) ++ [codeIn stoppingOrNot a.window.stopping]
    ++ optOctet (a.window.inFlight.map (codeIn origins))

/-- PART_STATE, link group (R171). -/
def linkGroup (u : LinkUnit) : List Byte :=
  [codeIn linkHealths u.link, codeIn rxStates u.rx.state, natOctet u.responses.length, natOctet u.reports.length,
    natOctet (u.reports.countP Report.isSample), codeIn streams u.stream, u.seqNo]
    ++ natOctets u.losses ++ natOctets u.counters.valid ++ natOctets u.counters.lenError
    ++ natOctets u.counters.crcError ++ natOctets u.counters.gapError ++ natOctets u.counters.charError
    ++ natOctets u.counters.discarded

/-- PART_STATE (TABLE 9-4). -/
def partStateOctets (s : State) : List Byte :=
  partGroup s ++ sequencerGroup s.seq ++ lanesGroup s.xe ++ arbiterGroup s ++ linkGroup s.lu

/-! ## The tables that can be read -/

/-- A table as TABLE_READ sees it: its indices, the octets of one entry, and the entry at an index. -/
structure ReadRules where
  first : Nat
  last  : Nat
  len   : Nat
  entry : State → Nat → List Byte

/-- TABLE 9-2: the table of an id. -/
def readRules (id : Byte) : Option ReadRules :=
  match id.toNat with
  | 1 => some { first := 0, last := 255, len := 11, entry := fun s i => slotOctets (s.slot i) }
  | 2 => some { first := 1, last := 48, len := 12, entry := fun s a => nodeOctets (s.nodeCfg a) }
  | 3 => some { first := 0, last := 7, len := 28, entry := fun s i => sectionOctets (s.secCfg i) }
  | 4 => some { first := 0, last := 0, len := 26, entry := fun s _ => loopOctets s.cfg.loop }
  | 5 => some { first := 1, last := 48, len := 2, entry := fun s a => demandOctets (s.demandOf a) }
  | 6 => some { first := 1, last := 48, len := 2, entry := fun s a => natOctets (s.holdOf a) }
  | 7 => some { first := 0, last := 11, len := 1,
                entry := fun s n => [codeIn alarmLines ((s.cfg.alarm[n]?).getD .none)] }
  | 8 => some { first := 0, last := 0, len := 9, entry := fun s _ => linkSetOctets s.cfg.linkSet }
  | 9 => some { first := 1, last := 48, len := 15, entry := fun s a => nodeStateOctets (s.node a) }
  | 10 => some { first := 0, last := 7, len := 20, entry := fun s i => sectionStateOctets (s.sec i) }
  | 11 => some { first := 0, last := 0, len := 9, entry := fun s _ => loopStateOctets s.loop }
  | 12 => some { first := 0, last := 0, len := 81, entry := fun s _ => partStateOctets s }
  | _ => none

/-- R177: the octets a RESPONSE leaves for the entries of a read. -/
def readRoom : Nat := 233

/-- R177: the entries returned: no more than asked for, than the table holds from the first index, and than fit. -/
def entriesReturned (r : ReadRules) (first count : Nat) : Nat := min count (min (r.last + 1 - first) (readRoom / r.len))

/-- R177: a TABLE_READ and its answer. It changes nothing. -/
def serveRead (id first count : Byte) (s : State) : Served :=
  match readRules id with
  | none => refuse .badTable [id, first, 0] s
  | some r =>
    if first.toNat < r.first ∨ r.last < first.toNat then refuse .badIndex [id, first, 0] s
    else
      let n := entriesReturned r first.toNat count.toNat
      (s, some (.plain .ok
        ([id, first, natOctet n] ++ (List.range' first.toNat n).flatMap fun i => r.entry s i)))

end Sys2Proof.Machine
end

