-- ==== Sys2Proof/Machine/Operands.lean ====
section
/-! DEFINITION. The operands of a TABLE_WRITE: each table's entry read by the codes of R172 and judged by its table's
own checks and by the cross-table checks of R176. -/

namespace Sys2Proof.Machine

/-! ## Field by field -/

/-- An octet whose value lies within bounds. -/
def octetIn (lo hi : Nat) (b : Byte) : Bool := decide (lo ≤ b.toNat) && decide (b.toNat ≤ hi)

/-- An unsigned two-octet field within bounds. -/
def wordIn (lo hi : Nat) (w : Word) : Bool := decide (lo ≤ w.toNat) && decide (w.toNat ≤ hi)

/-- A signed two-octet field within bounds. -/
def wordInInt (lo hi : Int) (w : Word) : Bool := decide (lo ≤ w.toInt) && decide (w.toInt ≤ hi)

/-- The first `count` of the entries a list has room for, each an address, none of them named twice; none where the
count is above the room, or an entry is 0 or above 48 or repeated (R22, R26). -/
def readNodeList (count : Byte) (room : List Byte) : Option (List Nat) :=
  let xs := (room.take count.toNat).map BitVec.toNat
  if count.toNat ≤ room.length ∧ (xs.all fun a => decide (1 ≤ a) && decide (a ≤ 48)) ∧ xs.Nodup then some xs else none

/-- A NODE entry judged by R3. -/
def nodeOfEntry (e : NodeEntry) : Option NodeCfg :=
  match valueOf nodeKinds e.kind, valueOf lanes e.lane, valueOf reportModes e.report with
  | some k, some l, some r =>
    if e.low.toInt ≤ e.high.toInt ∧ octetIn 1 15 e.silence then
      some { kind := k, lane := l, gain := e.gain.toInt, offset := e.offset.toInt, low := e.low.toInt,
             high := e.high.toInt, report := r, silence := e.silence.toNat }
    else none
  | _, _, _ => none

/-- R96: the fields a slot of each kind reads hold values of TABLE 5-1 and TABLE 5-2. -/
def slotFieldsOk (k : SlotKind) (e : SlotEntry) : Bool :=
  let exchangeOk := octetIn 1 48 e.node && octetIn 0 1 e.frame && octetIn 0 1 e.lane && octetIn 0 3 e.retries
    && octetIn 0 1 e.alternate
  match k with
  | .mark => e.time != 0
  | .exchange => exchangeOk
  | .exchangeBranch => exchangeOk
  | .retryOn => exchangeOk
  | .gap => e.time != 0
  | .window => true
  | .jump => true
  | .call => true
  | .ret => true
  | .note => true
  | .stop => true

/-- A CYCLE entry judged by R96. The fields its kind does not read are kept as written. -/
def slotOfEntry (e : SlotEntry) : Option Slot :=
  match valueOf slotKinds e.kind with
  | some k =>
    if slotFieldsOk k e then
      some { kind := k, node := e.node, frame := e.frame, lane := e.lane, retries := e.retries,
             alternate := e.alternate, conditions := e.conditions, target := e.target, time := e.time,
             note := e.note }
    else none
  | none => none

/-- R22, R50: the fields of a SECTION entry other than its lists lie within TABLE 2-1 and TABLE 3-1. -/
def sectionFieldsOk (e : SectionEntry) : Bool :=
  octetIn 0 48 e.outlet && octetIn 0 48 e.valve && wordIn 0 3000 e.nominalMargin && wordIn 0 3000 e.transientMargin
    && decide (e.nominalMargin.toNat ≤ e.transientMargin.toNat) && wordIn 50 4000 e.band && wordIn 1 1000 e.riseLimit
    && wordIn 0 1000 e.valveMin && octetIn 1 254 e.staleLimit && decide (e.staleLimit.toNat < e.blindLimit.toNat)
    && wordIn 0 1000 e.blindCeiling && wordIn 1 1000 e.flushThreshold && wordIn 5 600 e.flushDuration
    && octetIn 1 7 e.postThreshold

/-- A SECTION entry judged by R22 and R50. -/
def sectionOfEntry (e : SectionEntry) : Option SectionCfg :=
  match valueOf yesNo e.enabled, readNodeList e.fanCount e.fans.toList with
  | some on, some fans =>
    if sectionFieldsOk e ∧ ¬ (on = true ∧ (e.outlet = 0 ∨ e.valve = 0)) then
      some { enabled := on, outlet := e.outlet.toNat, valve := e.valve.toNat, fans := fans,
             nominalMargin := e.nominalMargin.toNat, transientMargin := e.transientMargin.toNat, band := e.band.toNat,
             riseLimit := e.riseLimit.toNat, valveMin := e.valveMin.toNat, staleLimit := e.staleLimit.toNat,
             blindLimit := e.blindLimit.toNat, blindCeiling := e.blindCeiling.toNat,
             transientWindow := e.transientWindow.toNat, flushThreshold := e.flushThreshold.toNat,
             flushDuration := e.flushDuration.toNat, postThreshold := e.postThreshold.toNat }
    else none
  | _, _ => none

/-- R26, R51: the fields of a LOOP entry other than its list lie within TABLE 2-3 and TABLE 3-2. -/
def loopFieldsOk (e : LoopEntry) : Bool :=
  wordInInt (-6000) 0 e.freezePoint && octetIn 0 48 e.supply && octetIn 0 48 e.ret && octetIn 0 48 e.ambient
    && wordInInt (-3000) 3000 e.supplyFloor && wordIn 50 4000 e.band && wordIn 1 1000 e.riseLimit
    && octetIn 1 254 e.staleLimit && decide (e.staleLimit.toNat < e.blindLimit.toNat) && wordIn 0 1000 e.blindCeiling
    && wordIn 0 1000 e.pumpFloor && wordIn 10 65535 e.normalInterval && wordIn 10 65535 e.deepInterval

/-- A LOOP entry judged by R26 and R51. -/
def loopOfEntry (e : LoopEntry) : Option LoopCfg :=
  match readNodeList e.pumpCount e.pumps.toList with
  | some pumps =>
    if loopFieldsOk e then
      some { freezePoint := e.freezePoint.toInt, supply := e.supply.toNat, ret := e.ret.toNat,
             ambient := e.ambient.toNat, supplyFloor := e.supplyFloor.toInt, band := e.band.toNat,
             riseLimit := e.riseLimit.toNat, staleLimit := e.staleLimit.toNat, blindLimit := e.blindLimit.toNat,
             blindCeiling := e.blindCeiling.toNat, deepThreshold := e.deepThreshold.toInt, pumps := pumps,
             pumpFloor := e.pumpFloor.toNat, normalInterval := e.normalInterval.toNat,
             deepInterval := e.deepInterval.toNat }
    else none
  | none => none

/-- The marker of an unset DEMAND entry (R172). -/
def unsetMarker : Word := 0xFFFF

/-- A LINK_SET entry judged by R71, R126, R143 and R163. -/
def linkSetOfEntry (e : LinkSetEntry) : Option LinkSet :=
  match valueOf levels e.frostLevel, valueOf levels e.flushLevel, valueOf levels e.passLevel,
    valueOf levels e.probeLevel, valueOf autoHolds e.autoHold with
  | some fr, some fl, some pa, some pr, some ah =>
    if octetIn 10 255 e.responseTimeout ∧ octetIn 1 255 e.probeInterval ∧ octetIn 1 255 e.linkTimeout
        ∧ octetIn 1 255 e.fillInterval then
      some { responseTimeout := e.responseTimeout.toNat, probeInterval := e.probeInterval.toNat, frostLevel := fr,
             flushLevel := fl, passLevel := pa, probeLevel := pr, autoHold := ah,
             linkTimeout := e.linkTimeout.toNat, fillInterval := e.fillInterval.toNat }
    else none
  | _, _, _, _, _ => none

/-! ## Cross-table checks (R176) -/

/-- A role: the node named and the kind the role requires. -/
abbrev Role := Nat × NodeKind

/-- An address of 0 names no role (R176). -/
def namedRoles (rs : List Role) : List Role := rs.filter fun r => r.1 != 0

/-- The roles of a section record (R176). -/
def sectionRoles (c : SectionCfg) : List Role :=
  namedRoles ((c.outlet, .sensor) :: (c.valve, .valve) :: c.fans.map fun a => (a, .fan))

/-- The roles of the loop record (R176). -/
def loopRoles (c : LoopCfg) : List Role :=
  namedRoles ((c.supply, .sensor) :: (c.ret, .sensor) :: (c.ambient, .sensor) :: c.pumps.map fun a => (a, .pump))

/-- The roles of the sections but for section `i`, where one is left out. -/
def otherSectionRoles (s : State) (i : Option Nat) : List Role :=
  (sectionNumbers.filter fun j => i != some j).flatMap fun j => sectionRoles (s.secCfg j)

/-- Every role of the sections and the loop. -/
def allRoles (s : State) : List Role := otherSectionRoles s none ++ loopRoles s.cfg.loop

/-- The node is named in some role (R176). -/
def hasRole (s : State) (a : Nat) : Bool := (allRoles s).any fun r => r.1 == a

/-- Kind agreement of the roles an entry names. -/
def kindsAgree (s : State) (rs : List Role) : Bool := rs.all fun r => s.kindOf r.1 == r.2

/-- No node an entry names is named by another record. -/
def rolesFree (others rs : List Role) : Bool := rs.all fun r => others.all fun q => q.1 != r.1

/-- R176 for a SECTION entry at index `i`. -/
def sectionRolesOk (s : State) (i : Nat) (c : SectionCfg) : Bool :=
  kindsAgree s (sectionRoles c) && rolesFree (otherSectionRoles s (some i) ++ loopRoles s.cfg.loop) (sectionRoles c)

/-- R176 for a LOOP entry, whose supply, return and ambient nodes must also be distinct. -/
def loopRolesOk (s : State) (c : LoopCfg) : Bool :=
  kindsAgree s (loopRoles c) && rolesFree (otherSectionRoles s none) (loopRoles c)
    && decide ((loopRoles c).map Prod.fst).Nodup

/-- R176 for a NODE entry: a change of kind of a node named in a role is refused. -/
def nodeKindOk (s : State) (a : Nat) (k : NodeKind) : Bool := k == s.kindOf a || !hasRole s a

end Sys2Proof.Machine
end

