-- ==== Sys2Proof/Machine/Startup.lean ====
section
/-! DEFINITION. The Configuration Store and start-up (Chapter 7): the power-on reset, the end of the start-up read,
SAVE and the end of writing. -/

namespace Sys2Proof.Machine

/-- The plant link rate of a RATE strap level (0.8.1). -/
def rateOf (pin : Bool) : LinkRate := if pin then .high460800 else .low115200

/-- R154 and every power-on column: a power-on reset with the RATE strap at `pin`. Only the stored image, the image
state (judged when the read ends, R149) and the commands waiting outside the part stand; what was being written is
lost (R153). -/
def powerOn (pin : Bool) (s : State) : State :=
  { State.reset with
    store := { state := .reading, image := s.store.image, stored := s.store.stored, copy := none },
    ratePin := pin, rate := rateOf pin, pending := s.pending }

/-- R148: the medium holds a valid image. -/
def holdsValid (held : Option StoredImage) : Bool := held.any imageChecks

/-- What a read of the medium returns where it holds `held`. A read may find less than is held, but never a valid image
where none is held: after a failed or an interrupted SAVE no valid image is found until a SAVE ends OK (R152, R153,
R157), and a read that would find one returns what is held (log 26). -/
def readBack (held : Option StoredImage) : ReadBack → Option StoredImage
  | .asHeld => held
  | .altered image => if imageChecks image && !holdsValid held then held else some image
  | .absent => none

/-- R149: the image state at the end of the start-up read. -/
def judgeImage : Option StoredImage → ImageState
  | some i => if imageChecks i then .valid else .invalid
  | none => .blank

/-- The cause of a STORE_FAULT, as its detail octet (TABLE 8-8). -/
inductive StoreCause
  | write | check | blank
  deriving DecidableEq, Repr

/-- The detail octet of a STORE_FAULT (TABLE 8-8). -/
def StoreCause.code : StoreCause → Byte
  | .write => 1
  | .check => 2
  | .blank => 3

/-- R156 step 4: an enabled section's interval timer starts. -/
def startEnabled (i : Nat) (s : State) : State := if (s.secCfg i).enabled then startInterval i s else s

/-- R156: STARTING ends with a valid image. The walk reaches slot 0 when the command is finished. -/
def startFromImage (t : ConfigTables) (s : State) : State :=
  let loaded := (s.withCfg t).withLoop (.powerOn t.loop.supply)
  let judged := pumpCheck (forSections deriveAndCheck loaded)
  let idle := judged.withStore { judged.store with state := .idle, image := .valid }
  let held := idle.withLu { idle.lu with stream := .hold }
  driveLines (startAt 0 (forSections startEnabled held))

/-- R157: STARTING ends with no valid image. -/
def startFromDefaults (image : ImageState) (cause : StoreCause) (s : State) : State :=
  let loaded := (s.withCfg defaultTables).withLoop (.powerOn 0)
  let idle := loaded.withStore { loaded.store with state := .idle, image := image }
  raise .storeFault .none cause.code (idle.withLu { idle.lu with stream := .hold })

/-- R156, R157: the start-up read ends and returns `image`. -/
def endStarting (image : Option StoredImage) (s : State) : State :=
  let t := s.withStore { s.store with stored := image }
  match image with
  | some i => if imageChecks i then startFromImage i.tables t else startFromDefaults .invalid .check t
  | none => startFromDefaults .blank .blank t

/-- R156, R157: the end of the start-up read. Outside STARTING no read is under way. -/
def startupRead (read : ReadBack) (s : State) : State :=
  if s.Starting then endStarting (readBack s.store.stored read) s else s

/-- R150: an accepted SAVE. The stored image is invalidated before the first octet is written (R149). -/
def beginSave (s : State) : State :=
  s.withStore { state := .writing, image := .blank, stored := none, copy := some s.cfg }

/-- The result of a SAVE, as the detail octet of STORE_DONE (TABLE 8-8). -/
def saveOk : Byte := 0
def saveFailed : Byte := 1

/-- R152: the image read back at the end of writing matches its check value. -/
def writeMatches : Option StoredImage → Bool
  | some i => imageChecks i
  | none => false

/-- R152: writing ends and the image reads back as `image`. -/
def endWriting (image : Option StoredImage) (s : State) : State :=
  if writeMatches image then
    inform .storeDone .none saveOk
      (s.withStore { state := .idle, image := .valid, stored := image, copy := none })
  else
    inform .storeDone .none saveFailed
      (raise .storeFault .none StoreCause.write.code
        (s.withStore { state := .idle, image := .invalid, stored := image, copy := none }))

/-- R152: the end of writing. Outside WRITING there is nothing to end. -/
def storeWritten (read : ReadBack) (s : State) : State :=
  if s.store.state = .writing then endWriting (readBack (s.store.copy.map imageOf) read) s else s

end Sys2Proof.Machine
end

