-- ==== Sys2Proof/Machine/Writes.lean ====
section
/-! DEFINITION. TABLE_WRITE (R175): the effects of an accepted entry of each table, and the writing of entries in
order. -/

namespace Sys2Proof.Machine

/-! ## CYCLE -/

/-- R95: a slot is written. -/
def writeSlot (i : Nat) (x : Slot) (s : State) : State :=
  s.withCfg { s.cfg with cycle := s.cfg.cycle.setIfInBounds i x }

/-- R95, R96: a CYCLE entry. -/
def applySlot (i : Nat) (e : SlotEntry) (s : State) : Option State :=
  match slotOfEntry e with
  | some x => some (writeSlot i x s)
  | none => none

/-! ## NODE -/

/-- The configuration of a node is replaced. -/
def writeNodeCfg (a : Nat) (c : NodeCfg) (s : State) : State :=
  s.withCfg { s.cfg with nodes := s.cfg.nodes.setIfInBounds (a - 1) c }

/-- R4: the node takes the power-on values of its sample state and health fields; its demand entry is unset and its
hold entry takes the default of the new kind. -/
def resetNode (a : Nat) (k : NodeKind) (s : State) : State :=
  ((s.setNode a .powerOn).setDemand a none).setHold a (defaultHold k)

/-- R4: the effects of a change of kind. A SILENT node becomes ACTIVE, without a report. -/
def kindChange (a : Nat) (k : NodeKind) (s : State) : State :=
  let t := resetNode a k s
  if (s.node a).health = .silent then nodeActive a false t else t

/-- R5: a silence count lowered to or below an ACTIVE node's streak. -/
def silenceLowered (a before after : Nat) (s : State) : State :=
  let n := s.node a
  if n.health = .active ∧ after < before ∧ after ≤ n.streak then s.setNode a { n with streak := after - 1 } else s

/-- R3 to R5: an accepted NODE entry. -/
def writeNode (a : Nat) (c : NodeCfg) (s : State) : State :=
  let before := s.nodeCfg a
  let t := writeNodeCfg a c s
  if c.kind = before.kind then silenceLowered a before.silence c.silence t else kindChange a c.kind t

/-- R3, R176: a NODE entry. -/
def applyNode (a : Nat) (e : NodeEntry) (s : State) : Option State :=
  match nodeOfEntry e with
  | some c => if nodeKindOk s a c.kind then some (writeNode a c s) else none
  | none => none

/-! ## SECTION -/

/-- The configuration of a section is replaced. -/
def writeSectionCfg (i : Nat) (c : SectionCfg) (s : State) : State :=
  s.withCfg { s.cfg with sections := s.cfg.sections.setIfInBounds i c }

/-- R24: the section is disabled: C is 0, the sight BLIND, the transient window over. -/
def disableFrost (i : Nat) (s : State) : State :=
  s.setSec i { s.sec i with ceiling := 0, sight := .blind, transient := 0 }

/-- R24: a changed blind ceiling cuts C while the section is BLIND. -/
def blindCeilingWritten (i : Nat) (before c : SectionCfg) (s : State) : State :=
  let x := s.sec i
  if c.blindCeiling ≠ before.blindCeiling ∧ x.sight = .blind then
    s.setSec i { x with ceiling := min x.ceiling c.blindCeiling }
  else s

/-- R24: what an accepted SECTION entry does to the frost state, before the closing derivation. -/
def sectionFrost (i : Nat) (before c : SectionCfg) (s : State) : State :=
  if before.enabled = true ∧ c.enabled = false then disableFrost i s
  else if before.enabled = true ∧ c.enabled = true ∧ c.outlet ≠ before.outlet ∧ (s.sec i).sight ≠ .blind then
    enterBlind i s
  else blindCeilingWritten i before c s

/-- R66: enabling starts the interval timer and disabling stops it. -/
def sectionTimer (i : Nat) (before c : SectionCfg) (s : State) : State :=
  if before.enabled = false ∧ c.enabled = true then startInterval i s
  else if before.enabled = true ∧ c.enabled = false then s.setSec i { s.sec i with interval := none }
  else s

/-- R66: the entry ends a running pulse: it disables the section or moves it to another valve node. -/
def pulseEnded (before c : SectionCfg) : Bool :=
  before.enabled && (!c.enabled || c.valve != before.valve)

/-- R53, R66: the entry brings a judgement of a flow that is not FLUSHING. -/
def flowRejudged (before c : SectionCfg) : Bool :=
  (!before.enabled && c.enabled) || c.valve != before.valve || c.flushThreshold != before.flushThreshold

/-- R66: the flow after an accepted SECTION entry. -/
def sectionFlow (i : Nat) (before c : SectionCfg) (s : State) : State :=
  if (s.sec i).flow = .flushing then if pulseEnded before c then endPulse i s else s
  else if flowRejudged before c then judgeFlow i s
  else s

/-- R24, R66: an accepted SECTION entry: the record, the frost state, the flush state, and the derivation and override
check that close it. -/
def writeSection (i : Nat) (c : SectionCfg) (s : State) : State :=
  let before := s.secCfg i
  deriveAndCheck i
    (sectionFlow i before c (sectionTimer i before c (sectionFrost i before c (writeSectionCfg i c s))))

/-- R22, R50, R176: a SECTION entry. -/
def applySection (i : Nat) (e : SectionEntry) (s : State) : Option State :=
  match sectionOfEntry e with
  | some c => if sectionRolesOk s i c then some (writeSection i c s) else none
  | none => none

/-! ## LOOP -/

/-- R28: the supply node changes to 0. -/
def supplyUnused (s : State) : State := s.withLoop { s.loop with ceiling := 1000, supplySight := .seen }

/-- R28: a changed supply node, or a changed loop blind ceiling while the supply is BLIND. -/
def loopSupplyWritten (before c : LoopCfg) (s : State) : State :=
  if c.supply ≠ before.supply ∧ c.supply = 0 then supplyUnused s
  else if c.supply ≠ before.supply ∧ s.loop.supplySight ≠ .blind then supplyBlind s
  else if c.blindCeiling ≠ before.blindCeiling ∧ s.loop.supplySight = .blind then
    s.withLoop { s.loop with ceiling := min s.loop.ceiling c.blindCeiling }
  else s

/-- R28: a changed return node. -/
def loopReturnWritten (before c : LoopCfg) (s : State) : State :=
  if c.ret ≠ before.ret then s.withLoop { s.loop with retValue := none, retSight := .blind } else s

/-- R28: a changed ambient node. -/
def loopAmbientWritten (before c : LoopCfg) (s : State) : State :=
  if c.ambient ≠ before.ambient then s.withLoop { s.loop with ambientSight := .blind, deepFrost := true } else s

/-- R28: an accepted LOOP entry. Where L has risen because the supply node became 0, the override check of R28's lead
sentence is run as for any other change of L, although its first bullet says that this posts nothing (log 33). -/
def writeLoop (c : LoopCfg) (s : State) : State :=
  let before := s.cfg.loop
  let written := s.withCfg { s.cfg with loop := c }
  let t := loopAmbientWritten before c (loopReturnWritten before c (loopSupplyWritten before c written))
  pumpCheck (afterLoopCeiling s.loop.ceiling t)

/-- R26, R51, R176: a LOOP entry. -/
def applyLoop (e : LoopEntry) (s : State) : Option State :=
  match loopOfEntry e with
  | some c => if loopRolesOk s c then some (writeLoop c s) else none
  | none => none

/-! ## DEMAND, HOLD, ALARM_MAP, LINK_SET -/

/-- R17: a DEMAND entry. -/
def applyDemand (a : Nat) (w : Word) (s : State) : Option State :=
  if isActuator (s.kindOf a) then
    if w = unsetMarker then some (s.setDemand a none)
    else if w.toNat ≤ 1000 then some (s.setDemand a (some w.toNat))
    else none
  else if w = unsetMarker then some s
  else none

/-- R18: a HOLD entry. -/
def applyHold (a : Nat) (w : Word) (s : State) : Option State :=
  if 1000 < w.toNat then none
  else if isActuator (s.kindOf a) then some (s.setHold a w.toNat)
  else if w = 0 then some s
  else none

/-- R185: an entry of the alarm map is written, and the lines driven again. -/
def writeAlarm (n : Nat) (l : AlarmLine) (s : State) : State :=
  driveLines (s.withCfg { s.cfg with alarm := s.cfg.alarm.setIfInBounds n l })

/-- R175: an ALARM_MAP entry. -/
def applyAlarm (n : Nat) (b : Byte) (s : State) : Option State :=
  match valueOf alarmLines b with
  | some l => some (writeAlarm n l s)
  | none => none

/-- R71, R126, R143, R163: a LINK_SET entry. -/
def applyLinkSet (e : LinkSetEntry) (s : State) : Option State :=
  match linkSetOfEntry e with
  | some c => some (s.withCfg { s.cfg with linkSet := c })
  | none => none

/-! ## The entries of one request, in order (R175) -/

/-- What R175 needs to know of a table: its indices, whether its entries are refused with BUSY while the sequencer is
RUNNING or STOPPING, and what an entry at an index does, none where it is refused with BAD_VALUE. -/
structure WriteRules (ε : Type) where
  first     : Nat
  last      : Nat
  walkGuard : Bool
  apply     : Nat → ε → State → Option State

/-- The sequencer walks the list. -/
def walking (s : State) : Bool := s.seq.state == .running || s.seq.state == .stopping

/-- R175: the judgement of one entry, in order: its index, the store, the sequencer, its table's own checks. -/
def judgeEntry {ε : Type} (w : WriteRules ε) (i : Nat) (e : ε) (s : State) : ResultCode ⊕ State :=
  if i < w.first ∨ w.last < i then .inl .badIndex
  else if s.store.state = .writing then .inl .busy
  else if w.walkGuard ∧ walking s then .inl .busy
  else
    match w.apply i e s with
    | some t => .inr t
    | none => .inl .badValue

/-- How far a write has come. -/
structure WriteResult where
  state   : State
  code    : ResultCode
  written : Nat

/-- R175: the entries are applied in order from index `i`, `n` having been written; the first refused entry ends the
write. -/
def writeEntries {ε : Type} (w : WriteRules ε) : List ε → Nat → Nat → State → WriteResult
  | [], _, n, s => { state := s, code := .ok, written := n }
  | e :: es, i, n, s =>
    match judgeEntry w i e s with
    | .inl code => { state := s, code := code, written := n }
    | .inr t => writeEntries w es (i + 1) (n + 1) t

/-- R175: a TABLE_WRITE whose table is known, and its answer. -/
def serveWrite {ε : Type} (w : WriteRules ε) (first count : Byte) (entries : List ε) (s : State) : Served :=
  if count = 0 ∨ entries.length ≠ count.toNat then refuse .badLength [0] s
  else
    let r := writeEntries w entries first.toNat 0 s
    (r.state, some (.plain r.code [natOctet r.written]))

/-! ## The eight writable tables (TABLE 9-2) -/

def cycleRules : WriteRules SlotEntry := { first := 0, last := 255, walkGuard := true, apply := applySlot }
def nodeRules : WriteRules NodeEntry := { first := 1, last := 48, walkGuard := false, apply := applyNode }
def sectionRules : WriteRules SectionEntry := { first := 0, last := 7, walkGuard := false, apply := applySection }
def loopRules : WriteRules LoopEntry := { first := 0, last := 0, walkGuard := false, apply := fun _ => applyLoop }
def demandRules : WriteRules Word := { first := 1, last := 48, walkGuard := false, apply := applyDemand }
def holdRules : WriteRules Word := { first := 1, last := 48, walkGuard := false, apply := applyHold }
def alarmRules : WriteRules Byte := { first := 0, last := 11, walkGuard := false, apply := applyAlarm }
def linkSetRules : WriteRules LinkSetEntry :=
  { first := 0, last := 0, walkGuard := false, apply := fun _ => applyLinkSet }

end Sys2Proof.Machine
end

