-- ==== Sys2Proof/Machine/Requests.lean ====
section
/-! DEFINITION. The Request Decoder (Chapter 9): what each request does and answers, and how the payload of a frame
names a request (R173, TABLE 8-5). -/

namespace Sys2Proof.Machine

/-! ## DEMAND (R174) -/

/-- R174: one pair of a DEMAND. -/
def demandPair (p : Byte × Word) (s : State) : State :=
  if isActuator (s.kindOf p.1.toNat) then s.setDemand p.1.toNat (some (min 1000 p.2.toNat)) else s

/-- R174: the pairs accepted. -/
def acceptedPairs (s : State) (pairs : List (Byte × Word)) : Nat :=
  pairs.countP fun p => isActuator (s.kindOf p.1.toNat)

/-- R173, R174: a DEMAND of 1 to 40 pairs. -/
def serveDemand (pairs : List (Byte × Word)) (s : State) : Served :=
  if pairs = [] ∨ 40 < pairs.length then refuse .badLength [0, 0] s
  else
    let n := acceptedPairs s pairs
    (pairs.foldl (fun t p => demandPair p t) s,
      some (.plain .ok [natOctet n, natOctet (pairs.length - n)]))

/-! ## PASS (R181) -/

/-- R181: a PASS request, judged in the order of its table. -/
def servePass (tag node operation parameter : Byte) (value : Word) (s : State) : Served :=
  match valueOf passOps operation with
  | none => refuse .badValue [] s
  | some op =>
    if node = 0 ∨ 48 < node.toNat then refuse .badIndex [] s
    else if s.kindOf node.toNat = .none then refuse .badIndex [] s
    else if (s.node node.toNat).health = .silent then refuse .nodeSilent [] s
    else if passCapacity ≤ s.arb.pass.length then refuse .full [] s
    else
      (postPass { tag := tag, node := node.toNat, op := op, parameter := parameter, value := value } s,
        some (.plain .ok []))

/-! ## Commands (R179, R180) -/

/-- Command codes (8.9). -/
def codeStart : Byte := 1
def codeStop : Byte := 2
def codeReports : Byte := 3
def codeResume : Byte := 4
def codeHold : Byte := 5
def codeRevive : Byte := 6
def codeFlush : Byte := 7
def codeAck : Byte := 8
def codeReset : Byte := 9
def codeSave : Byte := 10
def codeClear : Byte := 11

/-- A command executed, answered OK with its code. -/
def accept (code : Byte) (s : State) : Served := (s, some (.plain .ok [code]))

/-- R100: START. -/
def serveStart (slot : Byte) (s : State) : Served :=
  match s.seq.state with
  | .idle => accept codeStart (startAt slot.toNat s)
  | .halted => accept codeStart (startAt slot.toNat s)
  | .running => refuse .notNow [codeStart] s
  | .stopping => refuse .notNow [codeStart] s

/-- R101: the sequencer enters STOPPING. -/
def enterStopping (s : State) : State := s.withSeq { s.seq with state := .stopping }

/-- R101: STOP in RUNNING, by the activity of the current slot. -/
def stopRunning (s : State) : State :=
  match s.seq.activity with
  | .exchange => enterStopping s
  | .window =>
    if s.arb.window.inFlight = none then enterIdle (clearWindow s)
    else enterStopping (s.withArb { s.arb with window := { s.arb.window with stopping := true } })
  | .markWait => enterIdle s
  | .gapWait => enterIdle s
  | .none => enterIdle s

/-- R101, R103: STOP. -/
def stopWalk (s : State) : State :=
  match s.seq.state with
  | .running => stopRunning s
  | .stopping => s
  | .idle => s
  | .halted => s

/-- R101, R103: STOP. -/
def serveStop (s : State) : Served := accept codeStop (stopWalk s)

/-- R167: REPORTS. -/
def serveReports (stream : Byte) (s : State) : Served :=
  match valueOf streams stream with
  | some x => accept codeReports (setStream x s)
  | none => refuse .badValue [codeReports] s

/-- R146: RESUME. -/
def serveResume (s : State) : Served :=
  accept codeResume (if s.mode = .autonomous then changeMode .supervised .resume s else s)

/-- R145: HOLD. -/
def serveHold (s : State) : Served :=
  accept codeHold (if s.mode = .supervised then changeMode .autonomous .hold s else s)

/-- R90: REVIVE of a node. -/
def serveReviveNode (node : Byte) (s : State) : Served :=
  if node = 0 ∨ 48 < node.toNat then refuse .badIndex [codeRevive] s
  else if s.kindOf node.toNat = .none then refuse .badIndex [codeRevive] s
  else accept codeRevive (nodeGood node.toNat s)

/-- R90: REVIVE of a lane. -/
def serveReviveLane (lane : Byte) (s : State) : Served :=
  match valueOf lanes lane with
  | some l => accept codeRevive (laneGood l s)
  | none => refuse .badIndex [codeRevive] s

/-- R59: FLUSH. -/
def serveFlush (sec : Byte) (s : State) : Served :=
  if 7 < sec.toNat then refuse .badIndex [codeFlush] s
  else if (s.secCfg sec.toNat).enabled = false then refuse .badValue [codeFlush] s
  else accept codeFlush (postFlush { sec := sec.toNat, kind := .pulseStart, mandatory := false } s)

/-- R179, R184: ACK. -/
def serveAck (classes : Word) (s : State) : Served :=
  if classes >>> 12 ≠ 0 then refuse .badValue [codeAck] s
  else accept codeAck (clearFlags (classes.setWidth 12) s)

/-- R67: a field reset ends the pulse of a section that is FLUSHING. -/
def endRunningPulse (i : Nat) (s : State) : State := if (s.sec i).flow = .flushing then endPulse i s else s

/-- R99: a field reset reaches the sequencer. -/
def resetWalk (s : State) : State :=
  match s.seq.state with
  | .running => s.withSeq (s.seq.launch 0)
  | .stopping => enterIdle s
  | .idle => s
  | .halted => s

/-- R180: a field reset: R92, R125 and R139, R67, R99, in that order. -/
def fieldReset (s : State) : State :=
  resetWalk (forSections endRunningPulse ((abandonExchange s).withArb .powerOn))

/-- R180: RESET FIELD. -/
def serveResetField (s : State) : Served := accept codeReset (fieldReset s)

/-- R162: the response of a RESET FULL waits in the response queue. -/
def powerOnQueued (s : State) : Bool := s.lu.responses.any (·.powerOn)

/-- R162: the response of a RESET FULL is being sent. -/
def powerOnSending (s : State) : Bool := s.lu.tx.any (·.powerOn)

/-- R170, R162: RESET LINK. With the response of a RESET FULL still waiting, the power-on is taken at once and empties
the queue it would be answered in. -/
def serveResetLink (s : State) : Served :=
  if powerOnQueued s then (powerOn s.ratePin s, none) else accept codeReset (linkReset s)

/-- R162, R180: RESET FULL. Only the first of several brings a power-on. -/
def serveResetFull (s : State) : Served :=
  (s, some { code := .ok, data := [codeReset], powerOn := !(powerOnQueued s || powerOnSending s) })

/-- R150: SAVE. -/
def serveSave (s : State) : Served :=
  match s.store.state with
  | .idle => accept codeSave (beginSave s)
  | .writing => refuse .notNow [codeSave] s
  | .reading => refuse .notNow [codeSave] s

/-- R169: CLEAR. -/
def serveClear (s : State) : Served := accept codeClear (clearReports s)

/-! ## From a payload to a request (R173, R175, R177, R179) -/

/-- The octet of a payload at a position; where the payload ends before it, the value is open (log 12). -/
def payloadOctet (payload : List Byte) (i : Nat) : Byte := (payload[i]?).getD (Config.missingOctet payload i)

/-- A DEMAND payload (R173). -/
def serveDemandFrame (payload : List Byte) (s : State) : Served :=
  match readPairs payload with
  | some pairs => serveDemand pairs s
  | none => refuse .badLength [0, 0] s

/-- The entries of a TABLE_WRITE, of the table's entry length, behind its header (R175). -/
def serveEntries {ε : Type} (w : WriteRules ε) (len : Nat) (read : List Byte → Option ε) (first count : Byte)
    (octets : List Byte) (s : State) : Served :=
  match readEntries len read count.toNat octets with
  | some entries => serveWrite w first count entries s
  | none => refuse .badLength [0] s

/-- A TABLE_WRITE payload: the three header octets first (R173), then the table id, then the entries (R175). -/
def serveWriteFrame (payload : List Byte) (s : State) : Served :=
  match payload with
  | id :: first :: count :: octets =>
    match id.toNat with
    | 1 => serveEntries cycleRules 11 readSlot first count octets s
    | 2 => serveEntries nodeRules 12 readNode first count octets s
    | 3 => serveEntries sectionRules 28 readSection first count octets s
    | 4 => serveEntries loopRules 26 readLoop first count octets s
    | 5 => serveEntries demandRules 2 readWord first count octets s
    | 6 => serveEntries holdRules 2 readWord first count octets s
    | 7 => serveEntries alarmRules 1 readOctet first count octets s
    | 8 => serveEntries linkSetRules 9 readLinkSet first count octets s
    | _ => refuse .badTable [0] s
  | _ => refuse .badLength [0] s

/-- The data of a TABLE_READ that is refused: the table id and first index it carries, and no entry. -/
def refusedRead (payload : List Byte) : List Byte := [payloadOctet payload 0, payloadOctet payload 1, 0]

/-- A TABLE_READ payload (R173). -/
def serveReadFrame (payload : List Byte) (s : State) : Served :=
  match payload with
  | [id, first, count] => serveRead id first count s
  | _ => refuse .badLength (refusedRead payload) s

/-- REVIVE, by its target kind (TABLE 8-5). -/
def serveRevive (kind target : Byte) (s : State) : Served :=
  if kind = 0 then serveReviveNode target s
  else if kind = 1 then serveReviveLane target s
  else refuse .badValue [codeRevive] s

/-- RESET, by its scope (TABLE 8-5). -/
def serveReset (scope : Byte) (s : State) : Served :=
  if scope = 0 then serveResetField s
  else if scope = 1 then serveResetLink s
  else if scope = 2 then serveResetFull s
  else refuse .badValue [codeReset] s

/-- A command of no parameter (TABLE 8-5), refused with BAD_LENGTH where the payload carries one. -/
def bare (code : Byte) (body : State → Served) (param : List Byte) (s : State) : Served :=
  match param with
  | [] => body s
  | _ :: _ => refuse .badLength [code] s

/-- A command of one parameter octet (TABLE 8-5). -/
def oneOctet (code : Byte) (body : Byte → State → Served) (param : List Byte) (s : State) : Served :=
  match param with
  | [p] => body p s
  | _ => refuse .badLength [code] s

/-- A command of two parameter octets (TABLE 8-5). -/
def twoOctets (code : Byte) (body : Byte → Byte → State → Served) (param : List Byte) (s : State) : Served :=
  match param with
  | [p, q] => body p q s
  | _ => refuse .badLength [code] s

/-- A COMMAND payload behind its code (R173, R179). -/
def serveCommand (code : Byte) (param : List Byte) (s : State) : Served :=
  match code.toNat with
  | 1 => oneOctet code serveStart param s
  | 2 => bare code serveStop param s
  | 3 => oneOctet code serveReports param s
  | 4 => bare code serveResume param s
  | 5 => bare code serveHold param s
  | 6 => twoOctets code serveRevive param s
  | 7 => oneOctet code serveFlush param s
  | 8 => twoOctets code (fun hi lo => serveAck (word hi lo)) param s
  | 9 => oneOctet code serveReset param s
  | 10 => bare code serveSave param s
  | 11 => bare code serveClear param s
  | _ => refuse .badValue [code] s

/-- A COMMAND payload (R173). -/
def serveCommandFrame (payload : List Byte) (s : State) : Served :=
  match payload with
  | code :: param => serveCommand code param s
  | [] => refuse .badLength [payloadOctet payload 0] s

/-- A PASS payload (R173). -/
def servePassFrame (tag : Byte) (payload : List Byte) (s : State) : Served :=
  match payload with
  | [node, op, parameter, v1, v0] => servePass tag node op parameter (word v1 v0) s
  | _ => refuse .badLength [] s

/-- R162 step 3: a valid frame, by its kind. -/
def serveFrame (kind tag : Byte) (payload : List Byte) (s : State) : Served :=
  if kind = kindDemand then whileServed [0, 0] (serveDemandFrame payload) s
  else if kind = kindTableWrite then whileServed [0] (serveWriteFrame payload) s
  else if kind = kindTableRead then whileServed (refusedRead payload) (serveReadFrame payload) s
  else if kind = kindCommand then whileServed [payloadOctet payload 0] (serveCommandFrame payload) s
  else if kind = kindPass then whileServed [] (servePassFrame tag payload) s
  else refuse .badKind [] s

end Sys2Proof.Machine
end

