-- ==== Sys2Proof/Machine/ControlCommands.lean ====
section
/-! DEFINITION. The requests that control the part: PASS and the commands of TABLE 9-5. -/

namespace Sys2Proof.Machine

/-- PASS (R181). -/
def execPass (tag node operation parameter : Byte) (value : Word) (s : State) : Host.Outcome State Fault Refusal :=
  .next (request kindPass tag [] (servePass tag node operation parameter value) s)

/-- START (R100). -/
def execStart (tag slot : Byte) (s : State) : Host.Outcome State Fault Refusal :=
  .next (request kindCommand tag [codeStart] (serveStart slot) s)

/-- STOP (R101, R103). -/
def execStop (tag : Byte) (s : State) : Host.Outcome State Fault Refusal :=
  .next (request kindCommand tag [codeStop] serveStop s)

/-- REPORTS (R167). -/
def execReports (tag stream : Byte) (s : State) : Host.Outcome State Fault Refusal :=
  .next (request kindCommand tag [codeReports] (serveReports stream) s)

/-- RESUME (R146). -/
def execResume (tag : Byte) (s : State) : Host.Outcome State Fault Refusal :=
  .next (request kindCommand tag [codeResume] serveResume s)

/-- HOLD (R145). -/
def execHold (tag : Byte) (s : State) : Host.Outcome State Fault Refusal :=
  .next (request kindCommand tag [codeHold] serveHold s)

/-- REVIVE of a node (R90). -/
def execReviveNode (tag node : Byte) (s : State) : Host.Outcome State Fault Refusal :=
  .next (request kindCommand tag [codeRevive] (serveReviveNode node) s)

/-- REVIVE of a lane (R90). -/
def execReviveLane (tag lane : Byte) (s : State) : Host.Outcome State Fault Refusal :=
  .next (request kindCommand tag [codeRevive] (serveReviveLane lane) s)

/-- FLUSH (R59). -/
def execFlush (tag sec : Byte) (s : State) : Host.Outcome State Fault Refusal :=
  .next (request kindCommand tag [codeFlush] (serveFlush sec) s)

/-- ACK (R184). -/
def execAck (tag : Byte) (classes : Word) (s : State) : Host.Outcome State Fault Refusal :=
  .next (request kindCommand tag [codeAck] (serveAck classes) s)

/-- RESET of scope FIELD (R180). -/
def execResetField (tag : Byte) (s : State) : Host.Outcome State Fault Refusal :=
  .next (request kindCommand tag [codeReset] serveResetField s)

/-- RESET of scope LINK (R170). -/
def execResetLink (tag : Byte) (s : State) : Host.Outcome State Fault Refusal :=
  .next (request kindCommand tag [codeReset] serveResetLink s)

/-- RESET of scope FULL (R162, R180). -/
def execResetFull (tag : Byte) (s : State) : Host.Outcome State Fault Refusal :=
  .next (request kindCommand tag [codeReset] serveResetFull s)

/-- SAVE (R150). -/
def execSave (tag : Byte) (s : State) : Host.Outcome State Fault Refusal :=
  .next (request kindCommand tag [codeSave] serveSave s)

/-- CLEAR (R169). -/
def execClear (tag : Byte) (s : State) : Host.Outcome State Fault Refusal :=
  .next (request kindCommand tag [codeClear] serveClear s)

end Sys2Proof.Machine
end

