-- ==== Sys2Proof/Machine/Timing.lean ====
section
/-! DEFINITION. Time: what a millisecond of plant time counts (R54, R155), what a microsecond counts while no command
waits (log 4), and what the end of each timer does. A timer that does not run has no end to act on. -/

namespace Sys2Proof.Machine

/-! ## Counting -/

/-- R54: a section timer counts one ms of plant time; stopped, it stays stopped. -/
def SectionState.tick (x : SectionState) : SectionState :=
  { x with interval := x.interval.map (· - 1), flushTimer := x.flushTimer.map (· - 1) }

/-- R155, R54: one millisecond of plant time. -/
def tickPlantTime (s : State) : State :=
  (s.withPlantTime (s.plantTime + 1)).withSections (s.sections.map SectionState.tick)

/-- One µs of the minor-cycle timer (R107) and of the wait timer (R114). -/
def Sequencer.elapse (q : Sequencer) : Sequencer :=
  { q with timerLeft := if q.timer = .counting then q.timerLeft - 1 else q.timerLeft, wait := q.wait - 1 }

/-- One µs of an open window (R131). -/
def Window.elapse (w : Window) : Window := { w with elapsed := if w.isOpen then w.elapsed + 1 else w.elapsed }

/-- One µs of an attempt (R74, R75). -/
def Flight.elapse (f : Flight) : Flight :=
  { f with frameLeft := if f.phase = .sending then f.frameLeft - 1 else f.frameLeft, replyLeft := f.replyLeft - 1,
           gapLeft := f.gapLeft - 1, windowLeft := f.windowLeft - 1 }

/-- One µs of the Exchange Engine. -/
def ExchangeEngine.elapse (e : ExchangeEngine) : ExchangeEngine :=
  { e with idleLeft := e.idleLeft - 1, flight := e.flight.map Flight.elapse }

/-- One µs of the Link Unit's timers (R160, R164, R166). -/
def LinkUnit.elapse (u : LinkUnit) : LinkUnit :=
  { u with rx := { u.rx with gap := u.rx.gap - 1 }, linkTimer := u.linkTimer.map (· - 1),
           fillTimer := u.fillTimer.map (· - 1) }

/-- One µs passes. No timer ends of itself: each end is a command (log 4). -/
def elapse (s : State) : State :=
  (((s.withSeq s.seq.elapse).withArb { s.arb with window := s.arb.window.elapse }).withXe s.xe.elapse).withLu
    s.lu.elapse

/-! ## The ends of timers -/

/-- R114: the wait timer of a GAP reaches zero. -/
def waitOver (s : State) : State :=
  if s.seq.activity = .gapWait then goOn (s.withSeq { s.seq with wait := 0 }) else s

/-- R116: the window open runs to the end of the minor cycle and nothing it granted is in flight. -/
def idleRunToEnd (s : State) : Bool :=
  s.arb.window.isOpen && s.arb.window.kind == .runToEnd && s.arb.window.inFlight.isNone

/-- The minor-cycle timer stands at zero in a state (R107). -/
def timerAtZero (t : CycleTimer) (s : State) : State := s.withSeq { s.seq with timer := t, timerLeft := 0 }

/-- R107, R116: the minor-cycle timer reaches zero. -/
def cycleTimerZero (s : State) : State :=
  if s.seq.timer = .counting then
    if s.seq.activity = .markWait then passMark false s
    else if idleRunToEnd s then closeWindow (timerAtZero .due s)
    else timerAtZero .lapsed s
  else s

/-- R55: the interval timer of a section expires. -/
def intervalOver (i : Nat) (s : State) : State := if (s.sec i).interval ≠ none then intervalExpiry i s else s

/-- R63: the flush timer of a section expires. -/
def flushOver (i : Nat) (s : State) : State := if (s.sec i).flushTimer ≠ none then pulseCompletes i s else s

/-- R164: the link timer expires. -/
def linkOver (s : State) : State := if s.lu.linkTimer ≠ none then loseLink s else s

/-- R165, R166, R162: the last octet of the frame in transmission is sent: the power-on that waits for it is taken, or
else the transmitter is free and the fill timer is loaded. -/
def frameEnd (s : State) : State :=
  match s.lu.tx with
  | some f =>
    if f.powerOn then powerOn s.ratePin s
    else s.withLu { s.lu with tx := none, fillTimer := some (fillInterval s) }
  | none => s

/-- R85: the probe countdown of a DOWN lane reaches 0. -/
def laneCountdownOver (l : Lane) (s : State) : State := if (s.lane l).health = .down then laneProbeDue l s else s

/-- R89: the probe countdown of a SILENT node reaches 0. -/
def nodeCountdownOver (a : Nat) (s : State) : State := if (s.node a).health = .silent then nodeProbeDue a s else s

/-- R74: the lane idle time ends, and an attempt that waits for it sends its command frame. -/
def idleOver (s : State) : State :=
  s.withXe { s.xe with
    idleLeft := 0,
    flight := s.xe.flight.map fun f => if f.phase = .idle then { f with phase := .sending } else f }

/-- R74, R71: the last octet of the command frame is sent, and the response timer starts. -/
def frameSent (s : State) : State :=
  s.withXe { s.xe with
    flight := s.xe.flight.map fun f =>
      if f.phase = .sending then { f with phase := .waiting, frameLeft := 0, replyLeft := responseTimeout s }
      else f }

/-- R75: an attempt in a phase ends with a transfer error; in any other phase nothing happens. -/
def failIn (p : Phase) (e : TransferError) (s : State) : State :=
  match s.xe.flight with
  | some f => if f.phase = p then failAttempt f e s else s
  | none => s

/-- R75, R76: an octet arrives on a lane. Only the lane of an attempt that waits for its reply or receives it is
heard. -/
def hearOctet (l : Lane) (b : Byte) (bad : Bool) (s : State) : State :=
  match s.xe.flight with
  | some f =>
    if f.lane = l ∧ f.listening then if bad then failAttempt f .badFrame s else takeReplyOctet f b s
    else s
  | none => s

end Sys2Proof.Machine
end

