-- ==== Sys2Proof/Machine/FieldCommands.lean ====
section
/-! DEFINITION. The commands of the field side: the stages of an attempt on a lane, and the ends of the sequencer's,
the probes' and the sections' timers. -/

namespace Sys2Proof.Machine

/-- IDLE_TIME_END (R74). -/
def execIdleTimeEnd (s : State) : Host.Outcome State Fault Refusal := .next (finish (idleOver s))

/-- COMMAND_FRAME_SENT (R74). -/
def execCommandFrameSent (s : State) : Host.Outcome State Fault Refusal := .next (finish (frameSent s))

/-- RESPONSE_TIMER_EXPIRY (R75). -/
def execResponseTimerExpiry (s : State) : Host.Outcome State Fault Refusal :=
  .next (finish (failIn .waiting .noReply s))

/-- REPLY_OCTET (R75). -/
def execReplyOctet (lane : Lane) (octet : Byte) (charError : Bool) (s : State) : Host.Outcome State Fault Refusal :=
  .next (finish (hearOctet lane octet charError s))

/-- REPLY_GAP_EXPIRY (R75). -/
def execReplyGapExpiry (s : State) : Host.Outcome State Fault Refusal :=
  .next (finish (failIn .receiving .badFrame s))

/-- REPLY_WINDOW_EXPIRY (R75). -/
def execReplyWindowExpiry (s : State) : Host.Outcome State Fault Refusal :=
  .next (finish (failIn .receiving .badFrame s))

/-- WAIT_TIMER_EXPIRY (R114). -/
def execWaitTimerExpiry (s : State) : Host.Outcome State Fault Refusal := .next (finish (waitOver s))

/-- LANE_PROBE_COUNTDOWN_END (R85). -/
def execLaneProbeCountdownEnd (lane : Lane) (s : State) : Host.Outcome State Fault Refusal :=
  .next (finish (laneCountdownOver lane s))

/-- NODE_PROBE_COUNTDOWN_END (R89). -/
def execNodeProbeCountdownEnd (node : Nat) (s : State) : Host.Outcome State Fault Refusal :=
  .next (finish (nodeCountdownOver node s))

/-- MINOR_CYCLE_TIMER_ZERO (R107). -/
def execMinorCycleTimerZero (s : State) : Host.Outcome State Fault Refusal := .next (finish (cycleTimerZero s))

/-- INTERVAL_TIMER_EXPIRY (R55). -/
def execIntervalTimerExpiry (sec : Nat) (s : State) : Host.Outcome State Fault Refusal :=
  .next (finish (intervalOver sec s))

/-- FLUSH_TIMER_EXPIRY (R63). -/
def execFlushTimerExpiry (sec : Nat) (s : State) : Host.Outcome State Fault Refusal :=
  .next (finish (flushOver sec s))

end Sys2Proof.Machine
end

