-- ==== Sys2Proof/Machine/Receiver.lean ====
section
/-! DEFINITION. The receiver of the plant link (section 8.3): octet by octet, abandonment and rescan, and the frame
found whole. -/

namespace Sys2Proof.Machine

/-! ## One octet (R160) -/

/-- What an octet brings: a receiver that goes on, a frame abandoned with a LEN or CRC error and its held octets, or a
valid frame. -/
inductive RxEvent
  | goOn (rx : Receiver)
  | lenError (held : List Byte)
  | crcError (held : List Byte)
  | frame (kind tag : Byte) (payload : List Byte)
  deriving DecidableEq, Repr

/-- The gap timer in µs (R160). -/
def gapLimit : Nat := 5000

/-- A receiver that has just held an octet: its gap timer runs anew. -/
def holding (state : RxState) (held : List Byte) : Receiver := { state := state, held := held, gap := gapLimit }

/-- R160: LEN is 2 to 240. -/
def lenOk (b : Byte) : Bool := decide (2 ≤ b.toNat) && decide (b.toNat ≤ 240)

/-- R160: the held octets from LEN to the last CRC octet are judged. -/
def judgeFrame (held : List Byte) : RxEvent :=
  let body := (held.drop 2).dropLast.dropLast
  match body, held.drop (2 + body.length) with
  | _ :: kind :: tag :: payload, [c1, c0] =>
    if crc16 body = word c1 c0 then .frame kind tag payload else .crcError held
  | _, _ => .crcError held

/-- R160: an octet in BODY. The frame is whole when LEN + 2 octets have been held after LEN. -/
def takeBody (held : List Byte) : RxEvent :=
  match held with
  | _ :: _ :: len :: rest =>
    if len.toNat + 2 ≤ rest.length then judgeFrame held else .goOn (holding .body held)
  | _ => .goOn (holding .body held)

/-- R160: the receiver takes an octet without a character error. -/
def takeOctet (rx : Receiver) (b : Byte) : RxEvent :=
  match rx.state with
  | .hunt => .goOn (if b = 0xD3 then holding .header [b] else .hunting)
  | .header =>
    if rx.held.length ≤ 1 then
      if b = 0x4B then .goOn (holding .header (rx.held ++ [b]))
      else if b = 0xD3 then .goOn (holding .header [b])
      else .goOn .hunting
    else if lenOk b then .goOn (holding .body (rx.held ++ [b]))
    else .lenError (rx.held ++ [b])
  | .body => takeBody (rx.held ++ [b])

/-! ## Abandonment and rescan (R161) -/

/-- The cause of an abandonment. -/
inductive RxError
  | len | crc | gap | char
  deriving DecidableEq, Repr

/-- R171: one more abandonment of a cause. -/
def LinkCounters.count (e : RxError) (c : LinkCounters) : LinkCounters :=
  match e with
  | .len => { c with lenError := satSucc 65535 c.lenError }
  | .crc => { c with crcError := satSucc 65535 c.crcError }
  | .gap => { c with gapError := satSucc 65535 c.gapError }
  | .char => { c with charError := satSucc 65535 c.charError }

/-- R161: a frame is abandoned and counted; the receiver is in HUNT. -/
def abandonFrame (e : RxError) (s : State) : State :=
  s.withLu { s.lu with rx := .hunting, counters := s.lu.counters.count e }

/-- The receiver takes a new state. -/
def setRx (rx : Receiver) (s : State) : State := s.withLu { s.lu with rx := rx }

/-- R162: a frame found whole is taken, and then the transmitter chooses. -/
def takeFrame (kind tag : Byte) (payload : List Byte) (s : State) : State :=
  finish (takeValid kind tag (serveFrame kind tag payload) s)

/-- R160, R161: the receiver takes octets in order, at most `fuel` moves. An abandonment puts the octets held after the
first START octet before the octets still to come. Where the rescan is `closing` (a gap or character error), a
candidate left open at its end is abandoned uncounted and the rescan goes on behind that candidate's first START octet.
A power-on taken with a frame ends the rescan. -/
def feed (closing : Bool) : Nat → List Byte → State → State
  | 0, _, s => s
  | fuel + 1, [], s =>
    match closing, s.lu.rx.held with
    | true, _ :: later => feed closing fuel later (setRx .hunting s)
    | true, [] => s
    | false, _ => s
  | fuel + 1, b :: rest, s =>
    match takeOctet s.lu.rx b with
    | .goOn rx => feed closing fuel rest (setRx rx s)
    | .lenError held => feed closing fuel (held.drop 1 ++ rest) (abandonFrame .len s)
    | .crcError held => feed closing fuel (held.drop 1 ++ rest) (abandonFrame .crc s)
    | .frame kind tag payload =>
      let t := takeFrame kind tag payload s
      if t.Starting ∧ ¬ s.Starting then t else feed closing fuel rest t

/-- Enough moves for a rescan of `n` octets: each abandonment leaves at least one octet fewer to be taken again. -/
def feedBound (n : Nat) : Nat := (n + 1) * (n + 1)

/-- R160: an octet arrives without a character error. -/
def receive (b : Byte) (s : State) : State := feed false (feedBound (s.lu.rx.held.length + 1)) [b] s

/-- R161: a gap or character error: the frame is counted, and the octets held behind its first START octet are
rescanned. The receiver ends in HUNT with nothing held. -/
def abandonAndRescan (e : RxError) (s : State) : State :=
  feed true (feedBound s.lu.rx.held.length) (s.lu.rx.held.drop 1) (abandonFrame e s)

/-- R160, R161: an octet arrives with a character error. -/
def receiveBad (s : State) : State := if s.lu.rx.state = .hunt then s else abandonAndRescan .char s

/-- R161: the gap timer expires. It runs in HEADER and BODY only. -/
def gapExpiry (s : State) : State := if s.lu.rx.state = .hunt then s else abandonAndRescan .gap s

end Sys2Proof.Machine
end

