-- ==== Sys2Proof/Machine/LinkCommands.lean ====
section
/-! DEFINITION. The commands of the plant link: an octet received, the ends of the Link Unit's timers, and the end of a
frame sent. -/

namespace Sys2Proof.Machine

/-- RECEIVER_OCTET (R160). Each frame found whole is finished as it is taken. -/
def execReceiverOctet (octet : Byte) (charError : Bool) (s : State) : Host.Outcome State Fault Refusal :=
  .next (if charError then receiveBad s else receive octet s)

/-- GAP_TIMER_EXPIRY (R161). Each frame found whole is finished as it is taken. -/
def execGapTimerExpiry (s : State) : Host.Outcome State Fault Refusal := .next (gapExpiry s)

/-- LINK_TIMER_EXPIRY (R164). -/
def execLinkTimerExpiry (s : State) : Host.Outcome State Fault Refusal := .next (finish (linkOver s))

/-- FILL_TIMER_EXPIRY (R166). -/
def execFillTimerExpiry (s : State) : Host.Outcome State Fault Refusal := .next (finish (fillExpiry s))

/-- TRANSMIT_FRAME_END (R165). -/
def execTransmitFrameEnd (s : State) : Host.Outcome State Fault Refusal := .next (finish (frameEnd s))

end Sys2Proof.Machine
end

