-- ==== Sys2Proof/Machine/PartCommands.lean ====
section
/-! DEFINITION. The commands of the part as a whole: power-on, the ends of the store's reading and writing, and plant
time. -/

namespace Sys2Proof.Machine

/-- POWER_ON_RESET (R154). -/
def execPowerOnReset (rateHigh : Bool) (s : State) : Host.Outcome State Fault Refusal :=
  .next (finish (powerOn rateHigh s))

/-- STARTUP_READ_END (R156, R157). -/
def execStartupReadEnd (read : ReadBack) (s : State) : Host.Outcome State Fault Refusal :=
  .next (finish (startupRead read s))

/-- PLANT_TIME_TICK (R155). -/
def execPlantTimeTick (s : State) : Host.Outcome State Fault Refusal := .next (finish (tickPlantTime s))

/-- STORE_WRITE_END (R152). -/
def execStoreWriteEnd (read : ReadBack) (s : State) : Host.Outcome State Fault Refusal :=
  .next (finish (storeWritten read s))

end Sys2Proof.Machine
end

