-- ==== Sys2Proof/Machine/TableCommands.lean ====
section
/-! DEFINITION. The requests that write and read tables: DEMAND, TABLE_WRITE and TABLE_READ. -/

namespace Sys2Proof.Machine

/-- DEMAND (R174). -/
def execDemand (tag : Byte) (pairs : List (Byte × Word)) (s : State) : Host.Outcome State Fault Refusal :=
  .next (request kindDemand tag [0, 0] (serveDemand pairs) s)

/-- TABLE_WRITE_CYCLE (R95, R96, R175). -/
def execTableWriteCycle (tag first count : Byte) (entries : List SlotEntry) (s : State) :
    Host.Outcome State Fault Refusal :=
  .next (request kindTableWrite tag [0] (serveWrite cycleRules first count entries) s)

/-- TABLE_WRITE_NODE (R3 to R5, R175). -/
def execTableWriteNode (tag first count : Byte) (entries : List NodeEntry) (s : State) :
    Host.Outcome State Fault Refusal :=
  .next (request kindTableWrite tag [0] (serveWrite nodeRules first count entries) s)

/-- TABLE_WRITE_SECTION (R22, R24, R66, R175). -/
def execTableWriteSection (tag first count : Byte) (entries : List SectionEntry) (s : State) :
    Host.Outcome State Fault Refusal :=
  .next (request kindTableWrite tag [0] (serveWrite sectionRules first count entries) s)

/-- TABLE_WRITE_LOOP (R26, R28, R175). -/
def execTableWriteLoop (tag first count : Byte) (entries : List LoopEntry) (s : State) :
    Host.Outcome State Fault Refusal :=
  .next (request kindTableWrite tag [0] (serveWrite loopRules first count entries) s)

/-- TABLE_WRITE_DEMAND (R17, R175). -/
def execTableWriteDemand (tag first count : Byte) (entries : List Word) (s : State) :
    Host.Outcome State Fault Refusal :=
  .next (request kindTableWrite tag [0] (serveWrite demandRules first count entries) s)

/-- TABLE_WRITE_HOLD (R18, R175). -/
def execTableWriteHold (tag first count : Byte) (entries : List Word) (s : State) :
    Host.Outcome State Fault Refusal :=
  .next (request kindTableWrite tag [0] (serveWrite holdRules first count entries) s)

/-- TABLE_WRITE_ALARM_MAP (R185, R175). -/
def execTableWriteAlarmMap (tag first count : Byte) (entries : List Byte) (s : State) :
    Host.Outcome State Fault Refusal :=
  .next (request kindTableWrite tag [0] (serveWrite alarmRules first count entries) s)

/-- TABLE_WRITE_LINK_SET (R71, R126, R143, R163, R175). -/
def execTableWriteLinkSet (tag first count : Byte) (entries : List LinkSetEntry) (s : State) :
    Host.Outcome State Fault Refusal :=
  .next (request kindTableWrite tag [0] (serveWrite linkSetRules first count entries) s)

/-- TABLE_READ (R177). -/
def execTableRead (tag table first count : Byte) (s : State) : Host.Outcome State Fault Refusal :=
  .next (request kindTableRead tag [table, first, 0] (serveRead table first count) s)

end Sys2Proof.Machine
end

