-- ==== Sys2Proof/Machine/Dispatch.lean ====
section
/-! DEFINITION. Each command's meaning. -/

namespace Sys2Proof.Machine

def exec (i : Instr) (s : State) : Host.Outcome State Fault Refusal :=
  match i with
  | .powerOnReset rateHigh => Sys2Proof.Machine.execPowerOnReset rateHigh s
  | .startupReadEnd read => Sys2Proof.Machine.execStartupReadEnd read s
  | .plantTimeTick => Sys2Proof.Machine.execPlantTimeTick s
  | .receiverOctet octet charError => Sys2Proof.Machine.execReceiverOctet octet charError s
  | .gapTimerExpiry => Sys2Proof.Machine.execGapTimerExpiry s
  | .demand tag pairs => Sys2Proof.Machine.execDemand tag pairs s
  | .tableWriteCycle tag first count entries => Sys2Proof.Machine.execTableWriteCycle tag first count entries s
  | .tableWriteNode tag first count entries => Sys2Proof.Machine.execTableWriteNode tag first count entries s
  | .tableWriteSection tag first count entries => Sys2Proof.Machine.execTableWriteSection tag first count entries s
  | .tableWriteLoop tag first count entries => Sys2Proof.Machine.execTableWriteLoop tag first count entries s
  | .tableWriteDemand tag first count entries => Sys2Proof.Machine.execTableWriteDemand tag first count entries s
  | .tableWriteHold tag first count entries => Sys2Proof.Machine.execTableWriteHold tag first count entries s
  | .tableWriteAlarmMap tag first count entries => Sys2Proof.Machine.execTableWriteAlarmMap tag first count entries s
  | .tableWriteLinkSet tag first count entries => Sys2Proof.Machine.execTableWriteLinkSet tag first count entries s
  | .tableRead tag table first count => Sys2Proof.Machine.execTableRead tag table first count s
  | .pass tag node operation parameter value => Sys2Proof.Machine.execPass tag node operation parameter value s
  | .start tag slot => Sys2Proof.Machine.execStart tag slot s
  | .stop tag => Sys2Proof.Machine.execStop tag s
  | .reports tag stream => Sys2Proof.Machine.execReports tag stream s
  | .resume tag => Sys2Proof.Machine.execResume tag s
  | .hold tag => Sys2Proof.Machine.execHold tag s
  | .reviveNode tag node => Sys2Proof.Machine.execReviveNode tag node s
  | .reviveLane tag lane => Sys2Proof.Machine.execReviveLane tag lane s
  | .flush tag sec => Sys2Proof.Machine.execFlush tag sec s
  | .ack tag classes => Sys2Proof.Machine.execAck tag classes s
  | .resetField tag => Sys2Proof.Machine.execResetField tag s
  | .resetLink tag => Sys2Proof.Machine.execResetLink tag s
  | .resetFull tag => Sys2Proof.Machine.execResetFull tag s
  | .save tag => Sys2Proof.Machine.execSave tag s
  | .clear tag => Sys2Proof.Machine.execClear tag s
  | .idleTimeEnd => Sys2Proof.Machine.execIdleTimeEnd s
  | .commandFrameSent => Sys2Proof.Machine.execCommandFrameSent s
  | .responseTimerExpiry => Sys2Proof.Machine.execResponseTimerExpiry s
  | .replyOctet lane octet charError => Sys2Proof.Machine.execReplyOctet lane octet charError s
  | .replyGapExpiry => Sys2Proof.Machine.execReplyGapExpiry s
  | .replyWindowExpiry => Sys2Proof.Machine.execReplyWindowExpiry s
  | .waitTimerExpiry => Sys2Proof.Machine.execWaitTimerExpiry s
  | .laneProbeCountdownEnd lane => Sys2Proof.Machine.execLaneProbeCountdownEnd lane s
  | .nodeProbeCountdownEnd node => Sys2Proof.Machine.execNodeProbeCountdownEnd node s
  | .minorCycleTimerZero => Sys2Proof.Machine.execMinorCycleTimerZero s
  | .intervalTimerExpiry sec => Sys2Proof.Machine.execIntervalTimerExpiry sec s
  | .flushTimerExpiry sec => Sys2Proof.Machine.execFlushTimerExpiry sec s
  | .storeWriteEnd read => Sys2Proof.Machine.execStoreWriteEnd read s
  | .linkTimerExpiry => Sys2Proof.Machine.execLinkTimerExpiry s
  | .fillTimerExpiry => Sys2Proof.Machine.execFillTimerExpiry s
  | .transmitFrameEnd => Sys2Proof.Machine.execTransmitFrameEnd s

end Sys2Proof.Machine
end

