-- ==== Sys2Proof/Machine/Frames.lean ====
section
/-! DEFINITION. The link frame that carries each request row, octet by octet (R159, R172, TABLE 8-5). The receiver reads
these frames back (Machine/Receiver.lean, Machine/Requests.lean). -/

namespace Sys2Proof.Machine

/-- A CYCLE entry as received, in the order of TABLE 5-1. -/
def slotEntryOctets (e : SlotEntry) : List Byte :=
  [e.kind, e.node, e.frame, e.lane, e.retries, e.alternate, e.conditions, e.target] ++ wordOctets e.time ++ [e.note]

/-- A NODE entry as received, in the order of TABLE 1-1. -/
def nodeEntryOctets (e : NodeEntry) : List Byte :=
  [e.kind, e.lane] ++ wordOctets e.gain ++ wordOctets e.offset ++ wordOctets e.low ++ wordOctets e.high
    ++ [e.report, e.silence]

/-- A SECTION entry as received: TABLE 2-1 and then TABLE 3-1. -/
def sectionEntryOctets (e : SectionEntry) : List Byte :=
  [e.enabled, e.outlet, e.valve, e.fanCount] ++ e.fans.toList ++ wordOctets e.nominalMargin
    ++ wordOctets e.transientMargin ++ wordOctets e.band ++ wordOctets e.riseLimit ++ wordOctets e.valveMin
    ++ [e.staleLimit, e.blindLimit] ++ wordOctets e.blindCeiling ++ [e.transientWindow] ++ wordOctets e.flushThreshold
    ++ wordOctets e.flushDuration ++ [e.postThreshold]

/-- A LOOP entry as received: TABLE 2-3 and then TABLE 3-2. -/
def loopEntryOctets (e : LoopEntry) : List Byte :=
  wordOctets e.freezePoint ++ [e.supply, e.ret, e.ambient] ++ wordOctets e.supplyFloor ++ wordOctets e.band
    ++ wordOctets e.riseLimit ++ [e.staleLimit, e.blindLimit] ++ wordOctets e.blindCeiling
    ++ wordOctets e.deepThreshold ++ [e.pumpCount] ++ e.pumps.toList ++ wordOctets e.pumpFloor
    ++ wordOctets e.normalInterval ++ wordOctets e.deepInterval

/-- A LINK_SET entry as received, in the order of R172. -/
def linkSetEntryOctets (e : LinkSetEntry) : List Byte :=
  [e.responseTimeout, e.probeInterval, e.frostLevel, e.flushLevel, e.passLevel, e.probeLevel, e.autoHold,
    e.linkTimeout, e.fillInterval]

/-- One pair of a DEMAND payload (TABLE 8-5). -/
def pairOctets (p : Byte × Word) : List Byte := p.1 :: wordOctets p.2

/-- The frame of a TABLE_WRITE (TABLE 8-5). -/
def writeFrame {ε : Type} (id : Byte) (octets : ε → List Byte) (tag first count : Byte) (entries : List ε) : List Byte :=
  linkFrame kindTableWrite tag (id :: first :: count :: entries.flatMap octets)

/-- The frame of a COMMAND (TABLE 8-5). -/
def commandLinkFrame (tag : Byte) (payload : List Byte) : List Byte := linkFrame kindCommand tag payload

/-- The frame that carries a request, none for a row that is no request. -/
def requestFrame : Instr → Option (List Byte)
  | .powerOnReset _ => none
  | .startupReadEnd _ => none
  | .plantTimeTick => none
  | .receiverOctet _ _ => none
  | .gapTimerExpiry => none
  | .demand tag pairs => some (linkFrame kindDemand tag (pairs.flatMap pairOctets))
  | .tableWriteCycle tag first count es => some (writeFrame 1 slotEntryOctets tag first count es)
  | .tableWriteNode tag first count es => some (writeFrame 2 nodeEntryOctets tag first count es)
  | .tableWriteSection tag first count es => some (writeFrame 3 sectionEntryOctets tag first count es)
  | .tableWriteLoop tag first count es => some (writeFrame 4 loopEntryOctets tag first count es)
  | .tableWriteDemand tag first count es => some (writeFrame 5 wordOctets tag first count es)
  | .tableWriteHold tag first count es => some (writeFrame 6 wordOctets tag first count es)
  | .tableWriteAlarmMap tag first count es => some (writeFrame 7 (fun b => [b]) tag first count es)
  | .tableWriteLinkSet tag first count es => some (writeFrame 8 linkSetEntryOctets tag first count es)
  | .tableRead tag table first count => some (linkFrame kindTableRead tag [table, first, count])
  | .pass tag node operation parameter value =>
    some (linkFrame kindPass tag ([node, operation, parameter] ++ wordOctets value))
  | .start tag slot => some (commandLinkFrame tag [1, slot])
  | .stop tag => some (commandLinkFrame tag [2])
  | .reports tag stream => some (commandLinkFrame tag [3, stream])
  | .resume tag => some (commandLinkFrame tag [4])
  | .hold tag => some (commandLinkFrame tag [5])
  | .reviveNode tag node => some (commandLinkFrame tag [6, 0, node])
  | .reviveLane tag lane => some (commandLinkFrame tag [6, 1, lane])
  | .flush tag sec => some (commandLinkFrame tag [7, sec])
  | .ack tag classes => some (commandLinkFrame tag (8 :: wordOctets classes))
  | .resetField tag => some (commandLinkFrame tag [9, 0])
  | .resetLink tag => some (commandLinkFrame tag [9, 1])
  | .resetFull tag => some (commandLinkFrame tag [9, 2])
  | .save tag => some (commandLinkFrame tag [10])
  | .clear tag => some (commandLinkFrame tag [11])
  | .idleTimeEnd => none
  | .commandFrameSent => none
  | .responseTimerExpiry => none
  | .replyOctet _ _ _ => none
  | .replyGapExpiry => none
  | .replyWindowExpiry => none
  | .waitTimerExpiry => none
  | .laneProbeCountdownEnd _ => none
  | .nodeProbeCountdownEnd _ => none
  | .minorCycleTimerZero => none
  | .intervalTimerExpiry _ => none
  | .flushTimerExpiry _ => none
  | .storeWriteEnd _ => none
  | .linkTimerExpiry => none
  | .fillTimerExpiry => none
  | .transmitFrameEnd => none

end Sys2Proof.Machine
end

