-- ==== Sys2Proof/Safety.lean ====
section
/-! DEFINITION. What the reference says holds at every moment, as predicates on a state: the terms in which the claims
about whole runs are stated. -/

namespace Sys2Proof.Machine

/-- R186, R154: while STARTING the three alarm lines are asserted; otherwise each is asserted while a set flag is mapped
to it, and released while none is. -/
def AlarmsFollow (s : State) : Prop :=
  if s.Starting then s.eu.al0 = true ∧ s.eu.al1 = true ∧ s.eu.al2 = true
  else s.eu.al0 = lineHeld s.cfg.alarm s.eu.flags .al0 ∧ s.eu.al1 = lineHeld s.cfg.alarm s.eu.flags .al1
    ∧ s.eu.al2 = lineHeld s.cfg.alarm s.eu.flags .al2

/-- R29: E and V of a section stand as its C, the loop's L, its sight and its flow derive them. -/
def SectionDerived (s : State) (i : Nat) : Prop :=
  (s.sec i).fanCeiling = fanCeilingOf (s.sec i).flow (s.sec i).ceiling s.loop.ceiling
    ∧ (s.sec i).valveFloor
        = valveFloorOf (s.sec i).flow (s.sec i).sight (s.secCfg i).valveMin (s.sec i).ceiling

/-- R29: every section's E and V stand as they derive. -/
def LimitsDerived (s : State) : Prop := ∀ i, i < 8 → SectionDerived s i

/-- R29: every section ceiling C and the loop ceiling L lie within 0 to 1000. -/
def CeilingsBounded (s : State) : Prop := (∀ i, i < 8 → (s.sec i).ceiling ≤ 1000) ∧ s.loop.ceiling ≤ 1000

/-- R55: every section's flush balance lies within −3 to +7. -/
def BalancesBounded (s : State) : Prop := ∀ i, i < 8 → -3 ≤ (s.sec i).balance ∧ (s.sec i).balance ≤ 7

/-- The key of a FLUSH entry (TABLE 6-1). -/
def FlushRequest.key (r : FlushRequest) : Nat × FlushKind := (r.sec, r.kind)

/-- R122: no two entries of FROST, FLUSH or PROBE have the same key, and PASS holds at most 8; R162, R167: the response
queue holds at most 4 entries and the report queue at most 64. -/
def QueuesBounded (s : State) : Prop :=
  s.arb.frost.Nodup ∧ (s.arb.flush.map FlushRequest.key).Nodup ∧ s.arb.probe.Nodup ∧ s.arb.pass.length ≤ 8
    ∧ s.lu.responses.length ≤ 4 ∧ s.lu.reports.length ≤ 64

/-- R122: the keys of the FROST, FLUSH and PROBE entries name nodes, sections and lanes of the part, so that with no key
twice FROST holds at most 48 entries, FLUSH 16 and PROBE 50. -/
def KeysInRange (s : State) : Prop :=
  (∀ a ∈ s.arb.frost, 1 ≤ a ∧ a ≤ 48) ∧ (∀ r ∈ s.arb.flush, r.sec < 8)
    ∧ (∀ a, .node a ∈ s.arb.probe → 1 ≤ a ∧ a ≤ 48)

/-- R20, R26: a set of tables names no fan, valve or pump beyond node 48, and no fan or pump 0. -/
def RolesInRange (t : ConfigTables) : Prop :=
  (∀ c ∈ t.sections.toList, c.valve ≤ 48 ∧ ∀ a ∈ c.fans, 1 ≤ a ∧ a ≤ 48) ∧ ∀ a ∈ t.loop.pumps, 1 ≤ a ∧ a ≤ 48

/-- The tables the part works with, holds as its image and writes name no node that is not there. -/
def TablesInRange (s : State) : Prop :=
  RolesInRange s.cfg ∧ (∀ i, s.store.stored = some i → RolesInRange i.tables)
    ∧ (∀ t, s.store.copy = some t → RolesInRange t)

/-- R149, R150, R152: while the store is WRITING the medium holds no image; while it is IDLE the image state is VALID
just where the medium holds a valid image. -/
def StoreSound (s : State) : Prop :=
  (s.store.state = .writing → s.store.stored = none)
    ∧ (s.store.state = .idle → (s.store.image = .valid ↔ holdsValid s.store.stored = true))

/-- R160: the octets a receiver holds are those of a frame that has begun as its state says, and no more. -/
def Receiver.sound (r : Receiver) : Prop :=
  match r.state with
  | .hunt => r.held = []
  | .header => r.held = [0xD3] ∨ r.held = [0xD3, 0x4B]
  | .body => ∃ len rest, r.held = 0xD3 :: 0x4B :: len :: rest ∧ 2 ≤ len.toNat ∧ len.toNat ≤ 240
      ∧ rest.length < len.toNat + 2

/-- R160: the receiver holds what its state says. -/
def ReceiverSound (s : State) : Prop := s.lu.rx.sound

/-- The sequencer does not walk. -/
def SeqState.resting (st : SeqState) : Prop := st = .idle ∨ st = .halted

/-- R98, R106: in IDLE and HALTED the activity is NONE, the return pointer empty and the timers and the chain counter
at rest; a STOPPING walk is at an exchange or a window (R101); a move that is pending belongs to a RUNNING walk between
slots; the chain counter never passes 63. -/
def WalkRests (s : State) : Prop :=
  (s.seq.state.resting → s.seq.activity = .none ∧ s.seq.ret = none ∧ s.seq.timer = .idle ∧ s.seq.timerLeft = 0
    ∧ s.seq.wait = 0 ∧ s.seq.chain = 0)
    ∧ (s.seq.state = .stopping → s.seq.activity = .exchange ∨ s.seq.activity = .window)
    ∧ (s.seq.resume ≠ none → s.seq.state = .running ∧ s.seq.activity = .none)
    ∧ s.seq.chain ≤ 63

/-- R154 and the power-on columns: while STARTING the field side stands at its power-on values: no exchange, no walk, no
window, no timer of a section running, no demand, the mode AUTONOMOUS. -/
def StartingQuiet (s : State) : Prop :=
  s.Starting → s.nodes = Vector.replicate 48 .powerOn ∧ s.sections = Vector.replicate 8 .powerOn
    ∧ s.demand = Vector.replicate 48 none ∧ s.loop = .powerOn 0 ∧ s.xe = .powerOn ∧ s.seq = .powerOn
    ∧ s.arb = .powerOn ∧ s.mode = .autonomous

/-- R165: a free transmitter has nothing to send: no response waits, and no report while the stream is SEND. -/
abbrev NothingToSend (s : State) : Prop :=
  s.lu.tx = none → s.lu.responses = [] ∧ (s.lu.stream = .send → s.lu.reports = [])

/-- Nothing of a command is left over: no move of the walk and no decision of the arbiter is pending (log 5). -/
abbrev Settled (s : State) : Prop := s.seq.resume = none ∧ s.arb.due = false

/-- The state between two commands: settled, and the transmitter busy or without work. -/
abbrev AtRest (s : State) : Prop := Settled s ∧ NothingToSend s

/-- A request taken now is executed: the part is not STARTING, the link is UP and the response queue has room (R162). -/
abbrev Ready (s : State) : Prop :=
  ¬ s.Starting ∧ s.lu.link = .up ∧ s.lu.responses.length < 4 ∧ Settled s

/-- A post taken now waits: no run-to-end window stands open with nothing in flight (R131). -/
abbrev PostsWait (s : State) : Prop := s.arb.window.waiting = false

/-- R162 step 1, R164: the Link Unit once a valid frame has been taken on a link that is UP, with a link timeout of
`timeout` units of 100 ms. -/
def linkAfter (timeout : Nat) (u : LinkUnit) : LinkUnit :=
  { u with rx := .hunting, linkTimer := some (100000 * timeout),
           counters := { u.counters with valid := satSucc 65535 u.counters.valid } }

/-- R165: the Link Unit once a free transmitter has chosen. -/
def sendIfFree (u : LinkUnit) : LinkUnit := if u.tx = none then chooseFrame u else u

/-- R162 step 4, R165: the Link Unit once a response has been placed at the tail of its queue and a free transmitter has
chosen. -/
def replied (u : LinkUnit) (kind tag : Byte) (code : ResultCode) (data : List Byte) : LinkUnit :=
  sendIfFree { u with responses := u.responses ++
    [{ tag := tag, kind := kind, code := code, data := data, powerOn := false }] }

/-- R162 step 1: the Link Unit of `s` once a valid frame has been taken on a link that is UP. -/
def frameTaken (s : State) : LinkUnit := linkAfter (linkSettings s).linkTimeout s.lu

/-- R162, R173: the Link Unit of `s` once the request has been answered with `code` and `data`. -/
def answered (s : State) (kind tag : Byte) (code : ResultCode) (data : List Byte) : LinkUnit :=
  replied (frameTaken s) kind tag code data

/-- TABLE 8-6: the data of a request that is not executed, by its kind and its payload. -/
def unservedData (kind : Byte) (payload : List Byte) : List Byte :=
  if kind = kindDemand then [0, 0]
  else if kind = kindTableWrite then [0]
  else if kind = kindTableRead then payload.take 2 ++ [0]
  else if kind = kindCommand then payload.take 1
  else []

/-- The bit of a class among the flags (TABLE 8-8). -/
def flagBit (c : EventClass) : BitVec 12 := 1#12 <<< c.index

/-- R186, R154: the Event Unit with a set of flags, its lines driven. -/
def unitWith (s : State) (flags : BitVec 12) : EventUnit :=
  if s.Starting then { flags := flags, al0 := true, al1 := true, al2 := true }
  else { flags := flags, al0 := lineHeld s.cfg.alarm flags .al0, al1 := lineHeld s.cfg.alarm flags .al1,
         al2 := lineHeld s.cfg.alarm flags .al2 }

/-- R182: the Event Unit once an event of a class has been raised. -/
def unitAfter (s : State) (c : EventClass) : EventUnit := unitWith s (s.eu.flags ||| flagBit c)

/-- An event report as an occurrence now would queue it (R182). -/
def eventNow (s : State) (c : EventClass) (subject : Subject) (detail : Byte) : Report :=
  .event { cls := .event c, subject := subject, time := s.plantTime, cycle := s.seq.cycle, detail := detail }

/-- An informational report as it would be queued now (R183). -/
def infoNow (s : State) (c : InfoClass) (subject : Subject) (detail : Byte) : Report :=
  .event { cls := .info c, subject := subject, time := s.plantTime, cycle := s.seq.cycle, detail := detail }

/-- `n` reports queued now are not lost: the queue has room for them, or the stream is OFF and keeps none (R167). -/
abbrev RoomForReports (s : State) (n : Nat) : Prop := s.lu.stream = .off ∨ s.lu.reports.length + n ≤ 64

/-- R167: the report queue once `rs` have been queued and none was lost. -/
def reportsWith (s : State) (rs : List Report) : List Report :=
  if s.lu.stream = .off then s.lu.reports else s.lu.reports ++ rs

/-- R30, R47, R48: the last sent of a node stands outside the limit of its role, or is absent; a node in no role has no
limit. -/
def standsOutside (s : State) (a : Nat) : Bool :=
  let v := (s.node a).lastSent
  match s.fanSection a, s.valveSection a with
  | some i, _ => v.all fun x => decide ((s.sec i).fanCeiling < x)
  | none, some i => v.all fun x => decide (x < (s.sec i).valveFloor)
  | none, none => s.isPump a && v.all fun x => decide (x < s.cfg.loop.pumpFloor)

/-- R123: the FROST queue once a node has been posted, if it is to be. -/
def frostWith (s : State) (post : Bool) (a : Nat) : List Nat :=
  if post && !s.arb.frost.contains a then s.arb.frost ++ [a] else s.arb.frost

/-- R45: a value within the limits of a node's role as they stand: at or below E for a fan, at or above V for a valve,
at or above the pump floor for a pump. -/
def WithinLimits (s : State) (a v : Nat) : Prop :=
  (∀ i, s.fanSection a = some i → v ≤ (s.sec i).fanCeiling)
    ∧ (∀ i, s.fanSection a = none → s.valveSection a = some i → (s.sec i).valveFloor ≤ v)
    ∧ (s.fanSection a = none → s.valveSection a = none → s.isPump a = true → s.cfg.loop.pumpFloor ≤ v)

/-- R30: every ACTIVE fan of section `i` above its E and the ACTIVE valve below its V, as `t` holds E and V, stand in the
FROST queue of `t`. -/
def OverridesQueued (s t : State) (i : Nat) : Prop :=
  (∀ a ∈ (s.secCfg i).fans, (s.node a).health = .active →
      (s.node a).lastSent.all (fun v => decide ((t.sec i).fanCeiling < v)) = true → a ∈ t.arb.frost)
    ∧ ((s.secCfg i).valve ≠ 0 → (s.node (s.secCfg i).valve).health = .active →
      (s.node (s.secCfg i).valve).lastSent.all (fun v => decide (v < (t.sec i).valveFloor)) = true →
      (s.secCfg i).valve ∈ t.arb.frost)

/-- R19: the demand source value of a node. -/
def sourceValue (s : State) (a : Nat) : Nat :=
  if s.mode = .supervised then (s.demandOf a).getD (s.holdOf a) else s.holdOf a

/-- R45: the value sent to a node for a value before limits. -/
def limitedValue (s : State) (a before : Nat) : Nat :=
  match s.fanSection a, s.valveSection a with
  | some i, _ => min before (s.sec i).fanCeiling
  | none, some i => max before (s.sec i).valveFloor
  | none, none => if s.isPump a then max before s.cfg.loop.pumpFloor else before

/-- R46: the sections once a DRIVE to a node has been built for a value before limits. -/
def clampsCounted (s : State) (a before : Nat) : Vector SectionState 8 :=
  match if s.fanSection a = none then s.valveSection a else s.fanSection a with
  | some i => if limitedValue s a before = before then s.sections
      else s.sections.setIfInBounds i { s.sec i with clamps := satSucc 65535 (s.sec i).clamps }
  | none => s.sections

/-- R98: the sequencer once it has entered IDLE or HALTED. -/
def restingAs (q : Sequencer) (st : SeqState) : Sequencer :=
  { q with state := st, activity := .none, ret := none, timer := .idle, timerLeft := 0, wait := 0, chain := 0 }

/-- R106, R107, R114: the sequencer once it has reached a GAP at slot `i`. -/
def gapReached (q : Sequencer) (i : Nat) (time : Word) : Sequencer :=
  { q with current := i, activity := .gapWait, wait := 100 * time.toNat, chain := 0,
           timer := if q.timer = .due then .lapsed else q.timer }

/-- R100: the sequencer as START begins a walk at slot `i`. -/
def begunAt (q : Sequencer) (i : Nat) : Sequencer :=
  { restingAs q .running with current := i, haltCause := .none, haltSlot := 0 }

/-- R74, R77: an exchange at its first attempt, on lane `l`. -/
def firstAttempt (s : State) (q : ExchangeRequest) (l : Lane) (sent : Option Nat) (clamped : Bool)
    (frame : List Byte) : Flight :=
  { request := q, frame := frame, valueSent := sent, clamped := clamped, attempt := 1, lane := l,
    phase := if s.xe.idleLeft = 0 then .sending else .idle, octets := [], frameLeft := 40 * frame.length,
    replyLeft := 0, gapLeft := 0, windowLeft := 0 }

/-- R79: the lane of an aperiodic exchange with a node: its preferred lane, or the other while that one is DOWN. -/
def preferredLane (s : State) (a : Nat) : Lane :=
  if (s.lane (s.nodeCfg a).lane).health = .up then (s.nodeCfg a).lane else other (s.nodeCfg a).lane

/-- R75: the ways an attempt ends with a transfer error: the response timer before any reply octet, the octet gap or the
reply window within the reply, an octet with a character error, and a seventh octet whose reply is judged wrong. -/
def AttemptFails (f : Flight) (c : Instr) (e : TransferError) : Prop :=
  (c = .responseTimerExpiry ∧ f.phase = .waiting ∧ e = .noReply)
    ∨ ((c = .replyGapExpiry ∨ c = .replyWindowExpiry) ∧ f.phase = .receiving ∧ e = .badFrame)
    ∨ ((f.phase = .waiting ∨ f.phase = .receiving)
        ∧ ((∃ b, c = .replyOctet f.lane b true ∧ e = .badFrame)
          ∨ (∃ b, c = .replyOctet f.lane b false ∧ f.octets.length = 6
              ∧ judgeReply f.request.node f.request.kind (f.octets ++ [b]) = .inl e)))

/-- R83: the lane goes DOWN with one more failed attempt. -/
abbrev GoesDown (x : LaneState) : Prop := x.health = .up ∧ 7 ≤ x.streak

/-- R76, R83: a lane after one more failed attempt. -/
def laneAfterFailure (x : LaneState) (e : TransferError) : LaneState :=
  { health := if GoesDown x then .down else x.health, streak := min 8 (x.streak + 1),
    probeCountdown := if GoesDown x then 1 else x.probeCountdown,
    noReply := if e = .noReply then satSucc 65535 x.noReply else x.noReply,
    badFrame := if e = .badFrame then satSucc 65535 x.badFrame else x.badFrame,
    wrongNode := if e = .wrongNode then satSucc 65535 x.wrongNode else x.wrongNode,
    wrongKind := if e = .wrongKind then satSucc 65535 x.wrongKind else x.wrongKind }

/-- R84: a lane after a successful attempt. -/
def laneAfterSuccess (x : LaneState) : LaneState :=
  if x.health = .down then { x with health := .up, streak := 0, probeCountdown := 0 } else { x with streak := 0 }

/-- R79: the lane that attempt `n` of an exchange wants (R78), or the other while that one is DOWN. -/
def laneOfAttempt (s : State) (q : ExchangeRequest) (n : Nat) : Lane :=
  let want := if q.alternate = true ∧ n % 2 = 0 then other q.lane else q.lane
  if (s.lane want).health = .up then want else other want

/-- R112, R111: the slot the walk goes to when the exchange of the current slot ends with the conditions `c`. -/
def slotAfter (s : State) (c : Conditions) : Nat :=
  let x := s.slot s.seq.current
  if x.kind = .exchangeBranch ∧ x.conditions &&& c.octet ≠ 0 then x.target.toNat else nextSlot s.seq.current

/-- R111, R102, R114: the sequencer once the exchange of its slot has ended, where the walk goes on to a GAP. -/
def walkAfter (s : State) (c : Conditions) : Sequencer :=
  if s.seq.state = .stopping then restingAs s.seq .idle
  else gapReached s.seq (slotAfter s c) (s.slot (slotAfter s c)).time

/-- The walk that waits for the exchange of its slot goes on to a GAP when it ends, or ends in IDLE. -/
def EndsAtGap (s : State) (c : Conditions) : Prop :=
  s.seq.state = .stopping ∨ (s.seq.state = .running ∧ (s.slot (slotAfter s c)).kind = .gap)

/-! ## Exchanges granted in a window (Chapter 6) -/

/-- R129: the pointers once the head of a source at a level has been granted. -/
def pointersMoved (p : Position) (l : Level) (a : Arbiter) : Arbiter :=
  if l = .urgent then { a with urgent := p } else { a with urgent := .group, routine := p }

/-- R115: a fixed window of `time` units as it opens, with an exchange in flight in it. -/
def fixedWindow (time : Word) (o : Origin) : Window :=
  { isOpen := true, kind := .fixed, length := 100 * time.toNat, elapsed := 0, stopping := false, inFlight := some o }

/-- TABLE 6-4, R79: what the arbiter asks for an origin, a node and a frame kind. -/
def arbiterAsks (s : State) (o : Origin) (a : Nat) (k : FrameKind) : ExchangeRequest :=
  { origin := o, node := a, kind := k, lane := (s.nodeCfg a).lane, retries := 0, alternate := false, retryOn := 0,
    sec := 0, tag := 0, parameter := 0, value := 0 }

/-- R132, R77, R79: the flight of a DRIVE that the arbiter has granted, with a value before limits. -/
def grantedDrive (s : State) (q : ExchangeRequest) (before : Nat) : Flight :=
  firstAttempt s q (preferredLane s q.node) (some (limitedValue s q.node before))
    (decide (limitedValue s q.node before ≠ before))
    (commandFrame q.node .drive (natOctets (limitedValue s q.node before)))

/-- The window record is closed (R134); its other fields are the model's (log 20). -/
def windowShut (a : Arbiter) : Arbiter :=
  { a with window := { isOpen := false, kind := .fixed, length := 0, elapsed := 0, stopping := false,
                       inFlight := none } }

/-- Every aperiodic queue is empty. -/
abbrev NothingQueued (s : State) : Prop :=
  s.arb.frost = [] ∧ s.arb.flush = [] ∧ s.arb.pass = [] ∧ s.arb.probe = []

/-- R136, R134, R102: the result of a granted exchange has been handed on, leaving `t`, and what follows is told by the
window: it is stopping, with the walk STOPPING, or it runs to the end of the minor cycle with time left and every queue
empty. -/
def EndsInWindow (t : State) : Prop :=
  (t.arb.window.stopping = true ∧ t.seq.state = .stopping)
    ∨ (t.arb.window.stopping = false ∧ t.arb.window.isOpen = true ∧ t.arb.window.kind = .runToEnd ∧ NothingQueued t
        ∧ t.seq.timer = .counting ∧ 0 < t.seq.timerLeft)

/-- R136: the arbiter and the sequencer once the result of a granted exchange has been handed on: a stopping window
closes and the walk ends in IDLE; otherwise the window waits with nothing in flight. -/
def afterGranted (t : State) : State :=
  if t.arb.window.stopping = true then { t with arb := windowShut t.arb, seq := restingAs t.seq .idle }
  else { t with arb := { t.arb with window := { t.arb.window with inFlight := none } } }

/-- How an exchange of an origin hands its end on, in terms of `t`, the state that the hand-on leaves, and of the
conditions of its result: a slot's to the walk, which goes on to a GAP or ends; any other to its window. -/
def EndsTold (o : Origin) (t : State) (c : Conditions) : Prop := if o = .slot then EndsAtGap t c else EndsInWindow t

/-- The state an exchange leaves once its end has been handed on. -/
def endedAs (o : Origin) (t : State) (c : Conditions) : State :=
  let u := if o = .slot then { t with seq := walkAfter t c } else afterGranted t
  { u with xe := { u.xe with flight := none }, lu := sendIfFree u.lu }

/-! ## The cycle mark (R108 to R110) -/

/-- R85, R89: a probe countdown once the mark has counted it down. -/
def countedDown (s : State) (n : Nat) : Nat := if n ≤ 1 then s.cfg.linkSet.probeInterval else n - 1

/-- R14, R89: a node once the mark has been taken. -/
def nodeAtMark (s : State) (a : Nat) : NodeState :=
  let n := s.node a
  { n with age := if s.kindOf a = .none then n.age else satSucc 255 n.age,
           probeCountdown := if n.health = .silent then countedDown s n.probeCountdown else n.probeCountdown }

/-- R85: a lane once the mark has been taken. -/
def laneAtMark (s : State) (l : Lane) : LaneState :=
  let x := s.lane l
  { x with probeCountdown := if x.health = .down then countedDown s x.probeCountdown else x.probeCountdown }

/-- R37: the sight of the sample of node `a` at the mark, from the sight before it. -/
def sightAtMark (s : State) (a stale blind : Nat) (before : Sight) : Sight :=
  let n := nodeAtMark s a
  if before = .blind ∨ blind < n.age ∨ n.health = .silent ∨ n.value = none ∨ s.BothDown then .blind
  else if stale < n.age ∨ before = .stale then .stale else .seen

/-- R37: the sight of section `i` at the mark. -/
def sectionSight (s : State) (i : Nat) : Sight :=
  let c := s.secCfg i
  if c.enabled = true then sightAtMark s c.outlet c.staleLimit c.blindLimit (s.sec i).sight else (s.sec i).sight

/-- R39: section `i` enters BLIND at the mark. -/
abbrev SectionBlinds (s : State) (i : Nat) : Prop := sectionSight s i = .blind ∧ (s.sec i).sight ≠ .blind

/-- R40 to R42: the loop record once the mark has been taken. -/
def loopAtMark (s : State) : LoopState :=
  let c := s.cfg.loop
  let x := s.loop
  let supply := if c.supply = 0 then x.supplySight
    else sightAtMark s c.supply c.staleLimit c.blindLimit x.supplySight
  let ambient := if c.ambient = 0 then .blind else sightAtMark s c.ambient c.staleLimit c.blindLimit x.ambientSight
  { ceiling := if supply = .blind ∧ x.supplySight ≠ .blind then min x.ceiling c.blindCeiling else x.ceiling,
    supplySight := supply, retValue := x.retValue,
    retSight := if c.ret = 0 then .blind else sightAtMark s c.ret c.staleLimit c.blindLimit x.retSight,
    ambientSight := ambient, deepFrost := x.deepFrost || decide (ambient = .blind) }

/-- R57, R68: section `i` is judged at the mark: enabled, not FLUSHING, its balance at or above the effective post
threshold. -/
abbrev FlushJudged (s : State) (i : Nat) : Prop :=
  (s.secCfg i).enabled = true ∧ (s.sec i).flow ≠ .flushing
    ∧ ((if s.mode = .autonomous then 1 else (s.secCfg i).postThreshold : Nat) : Int) ≤ (s.sec i).balance

/-- R57: a START for section `i` is queued. -/
abbrev StartWaits (s : State) (i : Nat) : Prop := (i, FlushKind.pulseStart) ∈ s.arb.flush.map FlushRequest.key

/-- R58: a flush of section `i` is blocked at the mark, the return sight read as the mark has judged it. -/
abbrev FlushIsBlocked (s : State) (i : Nat) : Prop :=
  (s.node (s.secCfg i).valve).health = .silent
    ∨ ((loopAtMark s).retSight = .seen
        ∧ s.loop.retValue.any (fun v => decide (v ≤ s.cfg.loop.freezePoint + (s.secCfg i).nominalMargin)) = true)

/-- R57 case 3: the mark posts a START for section `i`. -/
abbrev StartPosted (s : State) (i : Nat) : Prop := FlushJudged s i ∧ ¬ StartWaits s i ∧ ¬ FlushIsBlocked s i

/-- R57 case 2: the mark finds the flush of section `i` blocked. -/
abbrev BlockFound (s : State) (i : Nat) : Prop := FlushJudged s i ∧ ¬ StartWaits s i ∧ FlushIsBlocked s i

/-- R57: the FLUSH queue once the mark has been taken: at balance 7 a START queued is made mandatory and keeps its place;
the STARTs posted join the tail in section order. -/
def flushAtMark (s : State) : List FlushRequest :=
  s.arb.flush.map (fun r =>
      if r.kind = .pulseStart ∧ FlushJudged s r.sec ∧ (s.sec r.sec).balance = 7 then { r with mandatory := true } else r)
    ++ (sectionNumbers.filter fun i => decide (StartPosted s i)).map fun i =>
      { sec := i, kind := .pulseStart, mandatory := decide ((s.sec i).balance = 7) }

/-- R85, R89: the mark posts a probe: the countdown of a DOWN lane or a SILENT node reaches 0 and none is queued. -/
def probePosted (s : State) : ProbeTarget → Bool
  | .lane l => (s.lane l).health = .down ∧ (s.lane l).probeCountdown ≤ 1 ∧ .lane l ∉ s.arb.probe
  | .node a => (s.node a).health = .silent ∧ (s.node a).probeCountdown ≤ 1 ∧ .node a ∉ s.arb.probe

/-- R85, R89: the PROBE queue once the mark has been taken: lane A, lane B, then the nodes in address order. -/
def probesAtMark (s : State) : List ProbeTarget :=
  s.arb.probe
    ++ ([ProbeTarget.lane .a, .lane .b] ++ nodeAddresses.map fun a => ProbeTarget.node a).filter (probePosted s)

/-- The events of the mark that passes at a slot, with the overrun of R110 where `late` names that slot: OVERRUN, BLIND by
section and then for the supply, FLUSH_BLOCKED by section (log 9). -/
def markEvents (late : Option Nat) (s : State) : List (EventClass × Subject) :=
  (late.toList.map fun i => (.overrun, .slot i))
    ++ ((sectionNumbers.filter fun i => decide (SectionBlinds s i)).map fun i => (.blind, .sec i))
    ++ (if (loopAtMark s).supplySight = .blind ∧ s.loop.supplySight ≠ .blind then
        [(.blind, .node s.cfg.loop.supply)] else [])
    ++ ((sectionNumbers.filter fun i => decide (BlockFound s i ∧ (s.sec i).blocked = false)).map fun i =>
        (.flushBlocked, .sec i))

/-- R182: the Event Unit once events have been raised one after another. -/
def unitAfterAll (s : State) (es : List EventClass) : EventUnit :=
  if es = [] then s.eu else unitWith s (es.foldl (fun flags c => flags ||| flagBit c) s.eu.flags)

/-- The mark changes what E and V of section `i` derive from: its sight, or the loop ceiling (R29). -/
abbrev MarkRederives (s : State) (i : Nat) : Prop :=
  sectionSight s i ≠ (s.sec i).sight ∨ (loopAtMark s).ceiling ≠ s.loop.ceiling

/-- R109: the cycle mark has been taken: from `s`, in which it passes, to `t`. The walk and the window are told apart
from it. `late` names the MARK's slot where it passes with an overrun (R110). -/
def MarkTaken (late : Option Nat) (s t : State) : Prop :=
  t = { s with
      nodes := t.nodes, sections := t.sections, loop := loopAtMark s, seq := t.seq,
      xe := { s.xe with laneA := laneAtMark s .a, laneB := laneAtMark s .b },
      arb := { s.arb with frost := t.arb.frost, flush := flushAtMark s, probe := probesAtMark s,
                          window := t.arb.window },
      eu := unitAfterAll s ((markEvents late s).map (·.1)),
      lu := sendIfFree { s.lu with reports := reportsWith s ((markEvents late s).map fun e =>
        .event { cls := .event e.1, subject := e.2, time := s.plantTime, cycle := s.seq.cycle + 1, detail := 0 }) } }
    ∧ (∀ a, t.node a = nodeAtMark s a)
    ∧ (∀ i, i < 8 → t.sec i = { s.sec i with
        sight := sectionSight s i,
        ceiling := if SectionBlinds s i then min (s.sec i).ceiling (s.secCfg i).blindCeiling else (s.sec i).ceiling,
        transient := if (s.secCfg i).enabled = true then (s.sec i).transient - 1 else (s.sec i).transient,
        blocked := (s.sec i).blocked || decide (BlockFound s i),
        fanCeiling := (t.sec i).fanCeiling, valveFloor := (t.sec i).valveFloor })
    ∧ (∀ i, i < 8 → MarkRederives s i → SectionDerived t i ∧ OverridesQueued s t i)
    ∧ (∀ i, i < 8 → ¬ MarkRederives s i →
        (t.sec i).fanCeiling = (s.sec i).fanCeiling ∧ (t.sec i).valveFloor = (s.sec i).valveFloor)
    ∧ s.arb.frost <+: t.arb.frost
    ∧ ∀ a ∈ t.arb.frost, a ∈ s.arb.frost
        ∨ ∃ i, i < 8 ∧ MarkRederives s i ∧ (a ∈ (s.secCfg i).fans ∨ (a = (s.secCfg i).valve ∧ a ≠ 0))

end Sys2Proof.Machine
end

