-- ==== Sys2Proof/WellFormed.lean ====
section
/-! DEFINITION. Which commands the outside of the part can send: a request whose frame fits on the plant link, a node
address or section number that names one, and an image whose fields fit their octets. -/

namespace Sys2Proof

/-- Octets of a TABLE_WRITE entry of each table (R172). -/
def cycleEntryLen : Nat := 11
def nodeEntryLen : Nat := 12
def sectionEntryLen : Nat := 28
def loopEntryLen : Nat := 26
def linkSetEntryLen : Nat := 9

/-- A payload of `n` octets fits a frame, whose LEN is at most 240 (R159). -/
def payloadFits (n : Nat) : Bool := n ≤ 238

/-- Entries of `len` octets each behind the three header octets of a TABLE_WRITE. -/
def writeFits (len n : Nat) : Bool := payloadFits (3 + n * len)

/-- A number a signed two-octet field can hold. -/
def isWordInt (x : Int) : Bool := -32768 ≤ x && x ≤ 32767

/-- A number an unsigned two-octet field can hold. -/
def isWordNat (n : Nat) : Bool := n < 65536

/-- A number one octet can hold. -/
def isByteNat (n : Nat) : Bool := n < 256

/-- The fields of a node record fit their octets. -/
def NodeCfg.fits (c : NodeCfg) : Bool :=
  isWordInt c.gain && isWordInt c.offset && isWordInt c.low && isWordInt c.high && isByteNat c.silence

/-- The fields of a section record fit their octets. -/
def SectionCfg.fits (c : SectionCfg) : Bool :=
  isByteNat c.outlet && isByteNat c.valve && decide (c.fans.length ≤ 4) && c.fans.all isByteNat
    && isWordNat c.nominalMargin && isWordNat c.transientMargin && isWordNat c.band && isWordNat c.riseLimit
    && isWordNat c.valveMin && isByteNat c.staleLimit && isByteNat c.blindLimit && isWordNat c.blindCeiling
    && isByteNat c.transientWindow && isWordNat c.flushThreshold && isWordNat c.flushDuration
    && isByteNat c.postThreshold

/-- The fields of the loop record fit their octets. -/
def LoopCfg.fits (c : LoopCfg) : Bool :=
  isWordInt c.freezePoint && isByteNat c.supply && isByteNat c.ret && isByteNat c.ambient && isWordInt c.supplyFloor
    && isWordNat c.band && isWordNat c.riseLimit && isByteNat c.staleLimit && isByteNat c.blindLimit
    && isWordNat c.blindCeiling && isWordInt c.deepThreshold && decide (c.pumps.length ≤ 2) && c.pumps.all isByteNat
    && isWordNat c.pumpFloor && isWordNat c.normalInterval && isWordNat c.deepInterval

/-- The fields of the LINK_SET record fit their octets. -/
def LinkSet.fits (c : LinkSet) : Bool :=
  isByteNat c.responseTimeout && isByteNat c.probeInterval && isByteNat c.linkTimeout && isByteNat c.fillInterval

/-- Every field of the tables fits its octets, so that the tables can stand in an image (R148). -/
def ConfigTables.fits (t : ConfigTables) : Bool :=
  t.nodes.toList.all NodeCfg.fits && t.sections.toList.all SectionCfg.fits && t.loop.fits
    && t.hold.toList.all isWordNat && t.linkSet.fits

/-- An image read from the medium is made of octets. -/
def ReadBack.wf : ReadBack → Bool
  | .asHeld => true
  | .altered image => image.tables.fits
  | .absent => true

/-- The command is one the outside can send. -/
def Instr.wf : Instr → Bool
  | .powerOnReset _ => true
  | .startupReadEnd read => read.wf
  | .plantTimeTick => true
  | .receiverOctet _ _ => true
  | .gapTimerExpiry => true
  | .demand _ pairs => payloadFits (3 * pairs.length)
  | .tableWriteCycle _ _ _ entries => writeFits cycleEntryLen entries.length
  | .tableWriteNode _ _ _ entries => writeFits nodeEntryLen entries.length
  | .tableWriteSection _ _ _ entries => writeFits sectionEntryLen entries.length
  | .tableWriteLoop _ _ _ entries => writeFits loopEntryLen entries.length
  | .tableWriteDemand _ _ _ entries => writeFits 2 entries.length
  | .tableWriteHold _ _ _ entries => writeFits 2 entries.length
  | .tableWriteAlarmMap _ _ _ entries => writeFits 1 entries.length
  | .tableWriteLinkSet _ _ _ entries => writeFits linkSetEntryLen entries.length
  | .tableRead _ _ _ _ => true
  | .pass _ _ _ _ _ => true
  | .start _ _ => true
  | .stop _ => true
  | .reports _ _ => true
  | .resume _ => true
  | .hold _ => true
  | .reviveNode _ _ => true
  | .reviveLane _ _ => true
  | .flush _ _ => true
  | .ack _ _ => true
  | .resetField _ => true
  | .resetLink _ => true
  | .resetFull _ => true
  | .save _ => true
  | .clear _ => true
  | .idleTimeEnd => true
  | .commandFrameSent => true
  | .responseTimerExpiry => true
  | .replyOctet _ _ _ => true
  | .replyGapExpiry => true
  | .replyWindowExpiry => true
  | .waitTimerExpiry => true
  | .laneProbeCountdownEnd _ => true
  | .nodeProbeCountdownEnd node => 1 ≤ node && node ≤ 48
  | .minorCycleTimerZero => true
  | .intervalTimerExpiry sec => sec < 8
  | .flushTimerExpiry sec => sec < 8
  | .storeWriteEnd read => read.wf
  | .linkTimerExpiry => true
  | .fillTimerExpiry => true
  | .transmitFrameEnd => true

end Sys2Proof
end

