-- ==== Sys2Proof/Certificates/Slice0/Obligations.lean ====
section
/-! DEFINITION. The statements for the provers, in the order of the reference's blocks: the part as a whole, the plant
link, the tables, the controls, the field, and what every step keeps. -/

open Sys2Proof Sys2Proof.Machine

/-! ## The part as a whole -/

/-- A step takes the command at the front of the queue and runs it on the state with the queue's rest. -/
def Obligations.StepRunsTheFrontCommand : Prop :=
  ∀ (c : Instr) (rest : List Instr) (s : State),
    s.pending = c :: rest → step s = exec c { s with pending := rest }

/-- The model's choice (log 4): with no command waiting, one µs passes: every timer that runs has one µs less left, an
open window is one µs older, and nothing ends of itself. -/
def Obligations.EmptyQueueLetsTimePass : Prop :=
  ∀ s : State, s.pending = [] → AtRest s →
    step s = .next { s with
      seq := { s.seq with timerLeft := if s.seq.timer = .counting then s.seq.timerLeft - 1 else s.seq.timerLeft,
                          wait := s.seq.wait - 1 },
      arb := { s.arb with window := { s.arb.window with
        elapsed := if s.arb.window.isOpen then s.arb.window.elapsed + 1 else s.arb.window.elapsed } },
      xe := { s.xe with idleLeft := s.xe.idleLeft - 1, flight := s.xe.flight.map fun f =>
        { f with frameLeft := if f.phase = .sending then f.frameLeft - 1 else f.frameLeft, replyLeft := f.replyLeft - 1,
                 gapLeft := f.gapLeft - 1, windowLeft := f.windowLeft - 1 } },
      lu := { s.lu with rx := { s.lu.rx with gap := s.lu.rx.gap - 1 }, linkTimer := s.lu.linkTimer.map (· - 1),
                        fillTimer := s.lu.fillTimer.map (· - 1) } }

/-- What the power-on columns give, block by block. The working tables stand at the defaults and no image is stored,
which is the model's choice (log 3); so are the closed window's kind and length (log 20). -/
def Obligations.ResetValues : Prop :=
  (∀ a, State.reset.node a = { value := none, age := 255, lastRaw := none, lastStatus := none, lastSent := none,
                               health := .active, streak := 0, probeCountdown := 0 })
    ∧ (∀ a, State.reset.demandOf a = none)
    ∧ (∀ i, State.reset.sec i = { ceiling := 0, fanCeiling := 0, valveFloor := 1000, sight := .blind, transient := 0,
                                  clamps := 0, flow := .parked, balance := 0, interval := none, flushTimer := none,
                                  overdues := 0, blocked := false })
    ∧ State.reset.loop = { ceiling := 1000, supplySight := .seen, retValue := none, retSight := .blind,
                           ambientSight := .blind, deepFrost := true }
    ∧ (∀ l, State.reset.lane l = { health := .up, streak := 0, probeCountdown := 0, noReply := 0, badFrame := 0,
                                   wrongNode := 0, wrongKind := 0 })
    ∧ State.reset.xe.lastGood = 0 ∧ State.reset.xe.flight = none
    ∧ State.reset.seq = { state := .idle, current := 0, activity := .none, ret := none, timer := .idle, timerLeft := 0,
                          wait := 0, cycle := 0, chain := 0, haltCause := .none, haltSlot := 0, overruns := 0,
                          resume := none }
    ∧ State.reset.arb = { frost := [], flush := [], pass := [], probe := [], urgent := .group, routine := .probe,
                          window := { isOpen := false, kind := .fixed, length := 0, elapsed := 0, stopping := false,
                                      inFlight := none }, due := false }
    ∧ State.reset.lu = { rx := { state := .hunt, held := [], gap := 0 }, link := .lost, linkTimer := none,
                         responses := [], reports := [], stream := .hold, tx := none, seqNo := 0,
                         fillTimer := some 250000,
                         counters := { valid := 0, lenError := 0, crcError := 0, gapError := 0, charError := 0,
                                       discarded := 0 }, losses := 0 }
    ∧ State.reset.eu = { flags := 0, al0 := true, al1 := true, al2 := true }
    ∧ State.reset.store = { state := .reading, image := .blank, stored := none, copy := none }
    ∧ State.reset.mode = .autonomous ∧ State.reset.plantTime = 0 ∧ State.reset.cfg = defaultTables
    ∧ State.reset.pending = []

/-- POWER_ON_RESET: every block takes its power-on values, whatever it was doing; the stored image stands, the RATE strap
is sampled, and the commands waiting outside still wait (log 3). -/
def Obligations.PowerOnReset : Prop :=
  ∀ (rateHigh : Bool) (s : State),
    exec (.powerOnReset rateHigh) s = .next { State.reset with
      store := { state := .reading, image := s.store.image, stored := s.store.stored, copy := none },
      ratePin := rateHigh, rate := if rateHigh then .high460800 else .low115200, pending := s.pending }

/-- STARTUP_READ_END with a valid image (R156): the tables are the image's, every enabled section's interval timer runs
at the deep-frost length, and nothing else of the field side has been configured. Where slot 0 is a GAP, the walk stands
at it, and the FROST queue holds every actuator in a role. -/
def Obligations.StartupFromValidImage : Prop :=
  ∀ (read : ReadBack) (image : StoredImage) (s : State), s.Starting → StartingQuiet s →
    readBack s.store.stored read = some image → image.check = crc32 (tablesOctets image.tables) →
    ∃ t, exec (.startupReadEnd read) s = .next t ∧ t.cfg = image.tables
      ∧ t.store = { state := .idle, image := .valid, stored := some image, copy := s.store.copy }
      ∧ t.mode = .autonomous ∧ t.demand = s.demand ∧ t.lu.stream = .hold ∧ t.plantTime = s.plantTime
      ∧ (∀ i, i < 8 → (t.sec i).interval
          = if (t.secCfg i).enabled then some (1000 * image.tables.loop.deepInterval) else none)
      ∧ ((t.slot 0).kind = .gap →
          t.seq = { Sequencer.powerOn with state := .running, activity := .gapWait,
                                           wait := 100 * (t.slot 0).time.toNat }
            ∧ (∀ a, a ∈ t.arb.frost ↔
                (∃ i, i < 8 ∧ (a ∈ (t.secCfg i).fans ∨ a = (t.secCfg i).valve ∧ a ≠ 0))
                  ∨ a ∈ image.tables.loop.pumps)
            ∧ (∀ i, i < 8 → SectionDerived t i)
            ∧ t.loop = { ceiling := if image.tables.loop.supply = 0 then 1000 else 0,
                         supplySight := if image.tables.loop.supply = 0 then .seen else .blind, retValue := none,
                         retSight := .blind, ambientSight := .blind, deepFrost := true }
            ∧ t.eu = unitWith t s.eu.flags)

/-- STARTUP_READ_END with an invalid image or none (R157): the default tables, STORE_FAULT with its cause, the store IDLE
and the sequencer left IDLE. Whatever a read finds on a medium that holds no valid image, it ends so, and the medium
still holds none: a valid image comes of no command but the end of a SAVE (R152, R153, R157; that a read finds no valid
image where none is held is log 26). While WRITING the medium holds none, and while IDLE the image state says whether it
holds one. -/
def Obligations.StartupOnDefaults : Prop :=
  (∀ (read : ReadBack) (s : State), s.Starting → StartingQuiet s → s.lu.reports.length < 64 →
    (∀ image, readBack s.store.stored read = some image → image.check ≠ crc32 (tablesOctets image.tables) →
      exec (.startupReadEnd read) s = .next { s with
        cfg := defaultTables, store := { s.store with state := .idle, image := .invalid, stored := some image },
        eu := unitAfter { s with cfg := defaultTables, store := { s.store with state := .idle } } .storeFault,
        lu := sendIfFree { s.lu with stream := .hold,
                                     reports := s.lu.reports ++ [eventNow s .storeFault .none 2] } })
    ∧ (readBack s.store.stored read = none →
      exec (.startupReadEnd read) s = .next { s with
        cfg := defaultTables, store := { s.store with state := .idle, image := .blank, stored := none },
        eu := unitAfter { s with cfg := defaultTables, store := { s.store with state := .idle } } .storeFault,
        lu := sendIfFree { s.lu with stream := .hold,
                                     reports := s.lu.reports ++ [eventNow s .storeFault .none 3] } })
    ∧ (holdsValid s.store.stored = false →
      ∃ t, exec (.startupReadEnd read) s = .next t ∧ t.cfg = defaultTables ∧ t.store.state = .idle
        ∧ (t.store.image = .invalid ∨ t.store.image = .blank) ∧ holdsValid t.store.stored = false
        ∧ t.seq = .powerOn ∧ t.flag .storeFault = true))
    ∧ (∀ (c : Instr) (s t : State), exec c s = .next t → holdsValid t.store.stored = true →
      holdsValid s.store.stored = true ∨ (s.store.state = .writing ∧ ∃ read, c = .storeWriteEnd read))
    ∧ (∀ s t : State, StoreSound s → step s = .next t → StoreSound t)

/-- SAVE (R150), by the store state; and a power-on taken while the store is WRITING (R153): whatever the start-up read
then finds, the part starts on the defaults with STORE_FAULT, no valid image is found, and no STORE_DONE is queued. -/
def Obligations.SaveByStoreState : Prop :=
  (∀ (tag : Byte) (s : State), s.lu.link = .up → s.lu.responses.length < 4 → Settled s →
    (s.store.state = .idle →
      exec (.save tag) s = .next { s with
        store := { state := .writing, image := .blank, stored := none, copy := some s.cfg },
        lu := answered s kindCommand tag .ok [10] })
    ∧ (s.store.state = .writing →
      exec (.save tag) s = .next { s with lu := answered s kindCommand tag .notNow [10] })
    ∧ (s.store.state = .reading →
      exec (.save tag) s = .next { s with lu := answered s kindCommand tag .notNow [10] }))
    ∧ (∀ (rateHigh : Bool) (read : ReadBack) (s : State), s.store.state = .writing → s.store.stored = none →
      ∃ u t, exec (.powerOnReset rateHigh) s = .next u ∧ exec (.startupReadEnd read) u = .next t
        ∧ u.Starting ∧ t.cfg = defaultTables ∧ (t.store.image = .invalid ∨ t.store.image = .blank)
        ∧ holdsValid t.store.stored = false ∧ t.seq = .powerOn ∧ t.flag .storeFault = true
        ∧ t.lu.reports = [eventNow u .storeFault .none (if t.store.image = .invalid then 2 else 3)])

/-- STORE_WRITE_END (R152): what the store wrote reads back valid; an image that differs is judged by its own check
value; a failed SAVE raises STORE_FAULT with cause WRITE and then reports STORE_DONE with result FAILED. An absent
read-back counts as a mismatch, which is the model's choice (log 24). Outside WRITING nothing happens. -/
def Obligations.StoreWriteEnd : Prop :=
  ∀ (read : ReadBack) (s : State), Settled s → RoomForReports s 2 →
    (∀ copy, s.store.state = .writing → s.store.copy = some copy →
      (∀ image, readBack (some (imageOf copy)) read = some image →
          image.check = crc32 (tablesOctets image.tables) →
        exec (.storeWriteEnd read) s = .next { s with
          store := { state := .idle, image := .valid, stored := some image, copy := none },
          lu := sendIfFree { s.lu with reports := reportsWith s [infoNow s .storeDone .none 0] } })
      ∧ (∀ image, readBack (some (imageOf copy)) read = some image →
          image.check ≠ crc32 (tablesOctets image.tables) →
        exec (.storeWriteEnd read) s = .next { s with
          store := { state := .idle, image := .invalid, stored := some image, copy := none },
          eu := unitAfter { s with store := { s.store with state := .idle } } .storeFault,
          lu := sendIfFree { s.lu with reports :=
            (reportsWith s [eventNow s .storeFault .none 1, infoNow s .storeDone .none 1]) } })
      ∧ (readBack (some (imageOf copy)) read = none →
        exec (.storeWriteEnd read) s = .next { s with
          store := { state := .idle, image := .invalid, stored := none, copy := none },
          eu := unitAfter { s with store := { s.store with state := .idle } } .storeFault,
          lu := sendIfFree { s.lu with reports :=
            (reportsWith s [eventNow s .storeFault .none 1, infoNow s .storeDone .none 1]) } }))
    ∧ (s.store.state ≠ .writing →
      exec (.storeWriteEnd read) s = .next { s with lu := sendIfFree s.lu })

/-! ## The plant link -/

/-- Sending the octets of a request's frame one by one to a receiver in HUNT does what the request's row does, which
the model takes as the whole valid frame (log 1; the octet order of an ACK's set is log 34): no octet of any request is dropped or misread on its way from the frame
to the Request Decoder. -/
def Obligations.FrameOctetsRunTheRequest : Prop :=
  ∀ (c : Instr) (octets : List Byte) (s : State), c.wf → requestFrame c = some octets → s.lu.rx.state = .hunt →
    exec c s = octets.foldl (fun o b => match o with
      | .next t => exec (.receiverOctet b false) t
      | .fault f => .fault f
      | .refused r => .refused r) (.next s)

/-- The receiver's states (R160), for octets that complete no frame: what each octet does in HUNT, in HEADER awaiting the
second START octet, in HEADER awaiting LEN, and in BODY. -/
def Obligations.ReceiverStates : Prop :=
  ∀ (b : Byte) (s : State),
    let rxTo (rx : Receiver) : State := { s with lu := { s.lu with rx := rx } }
    (s.lu.rx.state = .hunt →
      exec (.receiverOctet b false) s
        = .next (rxTo (if b = 0xD3 then { state := .header, held := [0xD3], gap := 5000 }
                     else { state := .hunt, held := [], gap := 0 })))
    ∧ (s.lu.rx.state = .header → s.lu.rx.held = [0xD3] →
      exec (.receiverOctet b false) s
        = .next (rxTo (if b = 0x4B then { state := .header, held := [0xD3, 0x4B], gap := 5000 }
                     else if b = 0xD3 then { state := .header, held := [0xD3], gap := 5000 }
                     else { state := .hunt, held := [], gap := 0 })))
    ∧ (s.lu.rx.state = .header → s.lu.rx.held = [0xD3, 0x4B] → 2 ≤ b.toNat → b.toNat ≤ 240 →
      exec (.receiverOctet b false) s = .next (rxTo { state := .body, held := [0xD3, 0x4B, b], gap := 5000 }))
    ∧ (∀ len rest, s.lu.rx.state = .body → s.lu.rx.held = 0xD3 :: 0x4B :: len :: rest →
        rest.length + 1 < len.toNat + 2 →
      exec (.receiverOctet b false) s
        = .next (rxTo { state := .body, held := 0xD3 :: 0x4B :: len :: (rest ++ [b]), gap := 5000 }))

/-- Abandonment and rescan (R161). A LEN error, a CRC error, a gap error and a character error outside HUNT are each
counted once; the octets held behind the first START octet are taken again: where none of them can begin a frame the
receiver is in HUNT with nothing held; a frame found whole among them is taken then and there; a candidate they leave
open goes on after a LEN or CRC error, and after a gap or character error is dropped uncounted. In HUNT a gap error and
a character error do nothing, and outside it they always leave the receiver in HUNT with nothing held. Every step keeps
the octets held those of a frame begun (R160). -/
def Obligations.AbandonedFrames : Prop :=
  (∀ (b : Byte) (s : State),
    let hunting : Receiver := { state := .hunt, held := [], gap := 0 }
    let onLen : State := { s with lu := { s.lu with
      rx := hunting, counters := { s.lu.counters with lenError := satSucc 65535 s.lu.counters.lenError } } }
    let onCrc : State := { s with lu := { s.lu with
      rx := hunting, counters := { s.lu.counters with crcError := satSucc 65535 s.lu.counters.crcError } } }
    let onGap : State := { s with lu := { s.lu with
      rx := hunting, counters := { s.lu.counters with gapError := satSucc 65535 s.lu.counters.gapError } } }
    let onChar : State := { s with lu := { s.lu with
      rx := hunting, counters := { s.lu.counters with charError := satSucc 65535 s.lu.counters.charError } } }
    (s.lu.rx.state = .header → s.lu.rx.held = [0xD3, 0x4B] → b.toNat < 2 ∨ 240 < b.toNat →
      exec (.receiverOctet b false) s = .next onLen)
    ∧ (s.lu.rx.state = .hunt → exec .gapTimerExpiry s = .next s ∧ exec (.receiverOctet b true) s = .next s)
    ∧ (s.lu.rx.state ≠ .hunt → (∀ x ∈ s.lu.rx.held.drop 1, x ≠ 0xD3) →
      exec .gapTimerExpiry s = .next onGap ∧ exec (.receiverOctet b true) s = .next onChar)
    ∧ (s.lu.rx.state ≠ .hunt →
      (∃ t, exec .gapTimerExpiry s = .next t ∧ t.lu.rx = hunting)
      ∧ (∃ t, exec (.receiverOctet b true) s = .next t ∧ t.lu.rx = hunting))
    ∧ (∀ len rest c1 c0, s.lu.rx.state = .body → s.lu.rx.held ++ [b] = 0xD3 :: 0x4B :: len :: (rest ++ [c1, c0]) →
        rest.length = len.toNat → 2 ≤ len.toNat → crc16 (len :: rest) ≠ c1 ++ c0 →
      let later := len :: (rest ++ [c1, c0])
      ((∀ x ∈ later, x ≠ 0xD3) → exec (.receiverOctet b false) s = .next onCrc)
      ∧ (∀ noise c octets, (∀ x ∈ noise, x ≠ 0xD3) → c.wf → requestFrame c = some octets → later = noise ++ octets →
        exec (.receiverOctet b false) s = exec c onCrc)
      ∧ (∀ (noise : List Byte) (rx : Receiver), (∀ x ∈ noise, x ≠ 0xD3) → rx.sound → rx.state ≠ .hunt → rx.gap = 5000 →
          later = noise ++ rx.held →
        exec (.receiverOctet b false) s = .next { onCrc with lu := { onCrc.lu with rx := rx } }))
    ∧ (∀ noise c octets, (∀ x ∈ noise, x ≠ 0xD3) → c.wf → requestFrame c = some octets →
        s.lu.rx.state ≠ .hunt → s.lu.rx.held.drop 1 = noise ++ octets →
      exec .gapTimerExpiry s = exec c onGap ∧ exec (.receiverOctet b true) s = exec c onChar)
    ∧ (∀ (noise : List Byte) (rx : Receiver), (∀ x ∈ noise, x ≠ 0xD3) → rx.sound → rx.state ≠ .hunt →
        (∀ x ∈ rx.held.drop 1, x ≠ 0xD3) → s.lu.rx.state ≠ .hunt → s.lu.rx.held.drop 1 = noise ++ rx.held →
      exec .gapTimerExpiry s = .next onGap ∧ exec (.receiverOctet b true) s = .next onChar))
    ∧ (∀ s t : State, ReceiverSound s → step s = .next t → ReceiverSound t)

/-- While the part is STARTING every request is answered NOT_NOW, with the data of its kind (log 21), and has no other
effect than the taking of its frame (R154). -/
def Obligations.StartingAnswersNotNow : Prop :=
  ∀ (c : Instr) (kind tag : Byte) (payload : List Byte) (s : State),
    requestFrame c = some (linkFrame kind tag payload) → s.Starting → s.lu.link = .up →
    s.lu.responses.length < 4 → Settled s →
    exec c s = .next { s with lu := answered s kind tag .notNow (unservedData kind payload) }

/-- With four responses waiting, every request is discarded: it loads the link timer, counts as taken and as discarded,
and has no other effect; a RESET FULL among them brings no reset (R162 step 2). -/
def Obligations.FullResponseQueueDiscards : Prop :=
  ∀ (c : Instr) (s : State), requestFrame c ≠ none → s.lu.link = .up → 4 ≤ s.lu.responses.length → Settled s →
    exec c s = .next { s with lu := sendIfFree { frameTaken s with
      counters := { s.lu.counters with valid := satSucc 65535 s.lu.counters.valid,
                                       discarded := satSucc 65535 s.lu.counters.discarded } } }

/-- A request taken on a LOST link sets the link UP and queues LINK_UP, and then does what it does on a link that is UP
(R162 step 1). -/
def Obligations.LostLinkComesUp : Prop :=
  ∀ (c : Instr) (s : State), requestFrame c ≠ none → s.lu.link = .lost → RoomForReports s 1 →
    exec c s = exec c { s with lu := { s.lu with link := .up,
                                                 reports := reportsWith s [infoNow s .linkUp .none 0] } }

/-- LINK_TIMER_EXPIRY (R164, R144): the link is LOST, LINK_LOST is raised, and with auto-hold ON a SUPERVISED part becomes
AUTONOMOUS with a MODE report behind the LINK_LOST report; otherwise the mode stands. -/
def Obligations.LinkTimerExpiry : Prop :=
  ∀ (n : Nat) (s : State), s.lu.linkTimer = some n → RoomForReports s 2 → Settled s →
    let held := s.cfg.linkSet.autoHold = .on ∧ s.mode = .supervised
    exec .linkTimerExpiry s = .next { s with
      mode := if held then .autonomous else s.mode,
      eu := unitAfter s .linkLost,
      lu := sendIfFree { s.lu with link := .lost, linkTimer := none, reports :=
        (reportsWith s
          (eventNow s .linkLost .none 0 :: if held then [infoNow s .mode (.mode .autonomous) 1] else [])) } }

/-- FILL_TIMER_EXPIRY with the transmitter idle (R166): a FILL frame of the state as it stands is started and the fill
timer stops; the sequence number does not move; the codes of mode and states follow their lists (log 19)
and the two octets of the flags go high octet first (log 34). With a frame in
transmission nothing happens (log 4). -/
def Obligations.FillTimerExpiry : Prop :=
  ∀ (n : Nat) (s : State), s.lu.fillTimer = some n → Settled s →
    (s.lu.tx = none → exec .fillTimerExpiry s = .next { s with lu := { s.lu with
      fillTimer := none,
      tx := some { powerOn := false, octets := (linkFrame 0x23 s.lu.seqNo
        (longOctets s.plantTime ++ wordOctets s.seq.cycle
          ++ [match s.mode with
              | .supervised => 0
              | .autonomous => 1,
              match s.seq.state with
              | .idle => 0
              | .running => 1
              | .stopping => 2
              | .halted => 3,
              match s.store.state with
              | .reading => 0
              | .idle => 1
              | .writing => 2,
              BitVec.ofNat 8 s.lu.reports.length]
          ++ wordOctets (s.eu.flags.setWidth 16))) } } })
    ∧ (s.lu.tx ≠ none → exec .fillTimerExpiry s = .next s)

/-- TRANSMIT_FRAME_END (R165, R166, R162): the next frame is the head of the response queue; with none, the head of the
report queue while the stream is SEND, with the sequence number incremented and carried; with neither, the transmitter is
idle and the fill timer runs. At the end of a RESET FULL's response the power-on is taken. -/
def Obligations.TransmitFrameEnd : Prop :=
  ∀ (f : TxFrame) (s : State), s.lu.tx = some f → Settled s →
    (f.powerOn = false →
      (∀ r rest, s.lu.responses = r :: rest →
        exec .transmitFrameEnd s = .next { s with lu := { s.lu with
          responses := rest, fillTimer := none,
          tx := some { powerOn := r.powerOn,
                       octets := linkFrame 0x20 r.tag (r.kind :: codeIn resultCodes r.code :: r.data) } } })
      ∧ (∀ r rest, s.lu.responses = [] → s.lu.stream = .send → s.lu.reports = r :: rest →
        exec .transmitFrameEnd s = .next { s with lu := { s.lu with
          reports := rest, fillTimer := none, seqNo := s.lu.seqNo + 1,
          tx := some { powerOn := false, octets := linkFrame r.kind (s.lu.seqNo + 1) r.payload } } })
      ∧ (s.lu.responses = [] → s.lu.stream ≠ .send ∨ s.lu.reports = [] →
        exec .transmitFrameEnd s = .next { s with lu := { s.lu with
          tx := none, fillTimer := some (10000 * (linkSettings s).fillInterval) } }))
    ∧ (f.powerOn = true → exec .transmitFrameEnd s = exec (.powerOnReset s.ratePin) s)

/-- The queueing of a report (R167, R168): discarded while the stream is OFF; placed at the tail with room; into a full
queue, a sample report is lost, and an event-class report takes the place of the oldest sample report or, where there is
none, is lost. Every loss is counted and sets the REPORT_LOSS flag. -/
def Obligations.ReportQueueing : Prop :=
  ∀ (r : Report) (s : State),
    let lost (rs : List Report) : State := { s with
      lu := { s.lu with reports := rs, losses := satSucc 65535 s.lu.losses },
      eu := if s.flag .reportLoss then s.eu else unitAfter s .reportLoss }
    (s.lu.stream = .off → queueReport r s = s)
    ∧ (s.lu.stream ≠ .off → s.lu.reports.length < 64 →
      queueReport r s = { s with lu := { s.lu with reports := s.lu.reports ++ [r] } })
    ∧ (s.lu.stream ≠ .off → 64 ≤ s.lu.reports.length → r.isSample → queueReport r s = lost s.lu.reports)
    ∧ (s.lu.stream ≠ .off → 64 ≤ s.lu.reports.length → r.isSample = false →
      (∀ before x after, s.lu.reports = before ++ .sample x :: after → (∀ y ∈ before, y.isSample = false) →
        queueReport r s = lost (before ++ after ++ [r]))
      ∧ ((∀ y ∈ s.lu.reports, y.isSample = false) → queueReport r s = lost s.lu.reports))

/-- REPORTS (R167) and CLEAR (R169): the stream state is set, OFF empties the report queue, a stream outside its list is
refused with BAD_VALUE; CLEAR empties the report queue and nothing else. No loss is counted. -/
def Obligations.ReportStreamCommands : Prop :=
  ∀ (tag stream : Byte) (s : State), Ready s →
    (stream = 0 → exec (.reports tag stream) s = .next { s with
      lu := replied { frameTaken s with stream := .off, reports := [] } kindCommand tag .ok [3] })
    ∧ (stream = 1 → exec (.reports tag stream) s = .next { s with
      lu := replied { frameTaken s with stream := .hold } kindCommand tag .ok [3] })
    ∧ (stream = 2 → exec (.reports tag stream) s = .next { s with
      lu := replied { frameTaken s with stream := .send } kindCommand tag .ok [3] })
    ∧ (2 < stream.toNat → exec (.reports tag stream) s = .next { s with
      lu := answered s kindCommand tag .badValue [3] })
    ∧ exec (.clear tag) s = .next { s with
      lu := replied { frameTaken s with reports := [] } kindCommand tag .ok [11] }

/-- RESET LINK (R170) and RESET FULL (R162): the link reset sets the Link Unit alone to TABLE 8-2 and its response is the
first in the emptied queue; a power-on whose response still waits there is taken at once instead (log 22). RESET FULL
is only answered, and the first such response is marked to bring the power-on at its end. -/
def Obligations.ResetLinkAndFull : Prop :=
  ∀ (tag : Byte) (s : State), Ready s →
    ((∀ r ∈ s.lu.responses, r.powerOn = false) →
      exec (.resetLink tag) s = .next { s with
        lu := replied { s.lu with rx := { state := .hunt, held := [], gap := 0 }, link := .up,
                                  linkTimer := some (100000 * s.cfg.linkSet.linkTimeout), responses := [],
                                  reports := [], stream := .hold, seqNo := 0,
                                  counters := { valid := 0, lenError := 0, crcError := 0, gapError := 0,
                                                charError := 0, discarded := 0 } } kindCommand tag .ok [9] })
    ∧ ((∃ r ∈ s.lu.responses, r.powerOn = true) →
      exec (.resetLink tag) s = exec (.powerOnReset s.ratePin) s)
    ∧ exec (.resetFull tag) s = .next { s with lu := sendIfFree { frameTaken s with
        responses := s.lu.responses ++
          [{ tag := tag, kind := kindCommand, code := .ok, data := [9],
             powerOn := s.lu.responses.all (fun r => !r.powerOn) && s.lu.tx.all (fun f => !f.powerOn) }] } }

/-- HOLD (R145) and RESUME (R146), served in every state of the store but READING: the mode becomes AUTONOMOUS or
SUPERVISED and a MODE report of its cause is queued, or both stand where the mode is so already; both are answered OK.
While STARTING both are answered NOT_NOW and the mode stands. -/
def Obligations.HoldAndResume : Prop :=
  ∀ (tag : Byte) (s : State), s.lu.link = .up → s.lu.responses.length < 4 → Settled s →
    let changed (m : Mode) (cause code : Byte) : Host.Outcome State Fault Refusal :=
      let u := queueReport (infoNow s .mode (.mode m) cause) { s with mode := m, lu := frameTaken s }
      .next { u with lu := replied u.lu kindCommand tag .ok [code] }
    (s.store.state ≠ .reading →
      (s.mode = .supervised → exec (.hold tag) s = changed .autonomous 2 5)
      ∧ (s.mode = .autonomous → exec (.hold tag) s = .next { s with lu := answered s kindCommand tag .ok [5] })
      ∧ (s.mode = .autonomous → exec (.resume tag) s = changed .supervised 3 4)
      ∧ (s.mode = .supervised → exec (.resume tag) s = .next { s with lu := answered s kindCommand tag .ok [4] }))
    ∧ (s.store.state = .reading →
      exec (.hold tag) s = .next { s with lu := answered s kindCommand tag .notNow [5] }
      ∧ exec (.resume tag) s = .next { s with lu := answered s kindCommand tag .notNow [4] })

/-- ACK (R184, R179): the flags of the set are cleared and the lines driven again, and nothing else changes; a set with a
bit beyond the twelve classes is refused. -/
def Obligations.AckClearsFlags : Prop :=
  ∀ (tag : Byte) (classes : Word) (s : State), Ready s →
    (classes.toNat < 4096 → exec (.ack tag classes) s = .next { s with
      eu := unitWith s (s.eu.flags &&& ~~~(classes.setWidth 12)),
      lu := answered s kindCommand tag .ok [8] })
    ∧ (4096 ≤ classes.toNat → exec (.ack tag classes) s = .next { s with
      lu := answered s kindCommand tag .badValue [8] })

/-! ## The tables -/

/-- DEMAND (R174, R17): 1 to 40 pairs are applied in order, so that the last pair for a node stands; a value above 1000
is clamped, a pair for a node that is no actuator is ignored, and the answer counts both. Any other number of pairs is
refused with BAD_LENGTH. -/
def Obligations.DemandApplied : Prop :=
  ∀ (tag : Byte) (pairs : List (Byte × Word)) (s : State), Ready s →
    (pairs ≠ [] → pairs.length ≤ 40 →
      ∃ t, exec (.demand tag pairs) s = .next t
        ∧ t = { s with demand := t.demand, lu := (answered s kindDemand tag .ok
            [BitVec.ofNat 8 (pairs.countP fun p => isActuator (s.kindOf p.1.toNat)),
             BitVec.ofNat 8 (pairs.countP fun p => !isActuator (s.kindOf p.1.toNat))]) }
        ∧ ∀ a, t.demandOf a = match pairs.reverse.find? (fun p => p.1.toNat == a) with
            | some p => if isActuator (s.kindOf a) then some (min 1000 p.2.toNat) else s.demandOf a
            | none => s.demandOf a)
    ∧ (pairs = [] ∨ 40 < pairs.length →
      exec (.demand tag pairs) s = .next { s with lu := answered s kindDemand tag .badLength [0, 0] })

/-- TABLE_READ (R177): an id that names no table, then a first index outside the table, is refused; otherwise whole
consecutive entries are returned from the first index, no more than asked for, than the table holds and than fit in 233
octets, as the part stands once the frame is taken, its receiver in HUNT (log 35). Nothing is changed but the Link Unit
that answers. -/
def Obligations.TableRead : Prop :=
  ∀ (tag table first count : Byte) (s : State), Ready s →
    (readRules table = none ↔ table.toNat = 0 ∨ 12 < table.toNat)
    ∧ (readRules table = none →
      exec (.tableRead tag table first count) s
        = .next { s with lu := answered s kindTableRead tag .badTable [table, first, 0] })
    ∧ (∀ r, readRules table = some r →
      (first.toNat < r.first ∨ r.last < first.toNat →
        exec (.tableRead tag table first count) s
          = .next { s with lu := answered s kindTableRead tag .badIndex [table, first, 0] })
      ∧ (r.first ≤ first.toNat → first.toNat ≤ r.last →
        let n := min count.toNat (min (r.last + 1 - first.toNat) (233 / r.len))
        exec (.tableRead tag table first count) s
          = .next { s with lu := answered s kindTableRead tag .ok ([table, first, BitVec.ofNat 8 n]
              ++ (List.range' first.toNat n).flatMap (r.entry { s with lu := frameTaken s })) })
      ∧ ∀ i, (r.entry s i).length = r.len)

/-- An accepted entry reads back octet for octet as it was written (R172, R177): CYCLE, NODE, SECTION and LOOP (whose
list octets past the count are 0), ALARM_MAP and LINK_SET. -/
def Obligations.EntriesReadBackAsWritten : Prop :=
  (∀ e x, slotOfEntry e = some x → slotOctets x = slotEntryOctets e)
    ∧ (∀ e c, nodeOfEntry e = some c → nodeOctets c = nodeEntryOctets e)
    ∧ (∀ e c, sectionOfEntry e = some c → (∀ b ∈ e.fans.toList.drop e.fanCount.toNat, b = 0) →
        sectionOctets c = sectionEntryOctets e)
    ∧ (∀ e c, loopOfEntry e = some c → (∀ b ∈ e.pumps.toList.drop e.pumpCount.toNat, b = 0) →
        loopOctets c = loopEntryOctets e)
    ∧ (∀ b l, valueOf alarmLines b = some l → codeIn alarmLines l = b)
    ∧ (∀ e c, linkSetOfEntry e = some c → linkSetOctets c = linkSetEntryOctets e)

/-- TABLE_WRITE, the refusals that every table shares (R175): a count of 0 or a payload that is not count entries long is
BAD_LENGTH, a first index outside the table is BAD_INDEX, and a write while the store is WRITING is BUSY, in that order,
with 0 entries written and nothing changed. -/
def Obligations.TableWriteRefusals : Prop :=
  ∀ (c : Instr) (tag id first count : Byte) (octets : List Byte) (s : State), Ready s →
    requestFrame c = some (linkFrame kindTableWrite tag (id :: first :: count :: octets)) →
    ∃ r, readRules id = some r ∧ id.toNat ≤ 8
      ∧ (count = 0 ∨ octets.length ≠ count.toNat * r.len →
        exec c s = .next { s with lu := answered s kindTableWrite tag .badLength [0] })
      ∧ (count ≠ 0 → octets.length = count.toNat * r.len → first.toNat < r.first ∨ r.last < first.toNat →
        exec c s = .next { s with lu := answered s kindTableWrite tag .badIndex [0] })
      ∧ (count ≠ 0 → octets.length = count.toNat * r.len → r.first ≤ first.toNat → first.toNat ≤ r.last →
        s.store.state = .writing →
        exec c s = .next { s with lu := answered s kindTableWrite tag .busy [0] })

/-- TABLE_WRITE, entry by entry (R175): each entry is judged at first index + k on the tables as the entries before it
left them, its index first, then the store, then, for a table that is guarded, the walk; the first refused entry ends
the write with its code, the entries before it stand, and a write that refuses none is OK. -/
def Obligations.WriteStopsAtFirstRefusal : Prop :=
  ∀ (ε : Type) (w : WriteRules ε),
    (∀ (i : Nat) (e : ε) (s : State),
      (i < w.first ∨ w.last < i → judgeEntry w i e s = .inl .badIndex)
      ∧ (w.first ≤ i → i ≤ w.last → s.store.state = .writing → judgeEntry w i e s = .inl .busy)
      ∧ (w.first ≤ i → i ≤ w.last → w.walkGuard = true → s.seq.state = .running ∨ s.seq.state = .stopping →
        judgeEntry w i e s = .inl .busy))
    ∧ ∀ (entries : List ε) (first : Nat) (s : State),
      let upTo (k : Nat) := writeEntries w (entries.take k) first 0 s
      let whole := writeEntries w entries first 0 s
      whole.written ≤ entries.length ∧ whole.state = (upTo whole.written).state
        ∧ (∀ k, k < whole.written → ∃ e, entries[k]? = some e
            ∧ judgeEntry w (first + k) e (upTo k).state = .inr (upTo (k + 1)).state)
        ∧ (∀ e, entries[whole.written]? = some e → judgeEntry w (first + whole.written) e whole.state = .inl whole.code)
        ∧ (entries[whole.written]? = none → whole.code = .ok)

/-- A TABLE_WRITE of each writable table leaves the state that its entries in order leave (R175), answered with the code
and the number of entries written. -/
def Obligations.TableWritesApplyInOrder : Prop :=
  ∀ (tag first count : Byte) (s : State), Ready s → PostsWait s → count ≠ 0 →
    let leaves {ε : Type} (w : WriteRules ε) (entries : List ε) : Host.Outcome State Fault Refusal :=
      let r := writeEntries w entries first.toNat 0 { s with lu := frameTaken s }
      .next { r.state with lu := replied r.state.lu kindTableWrite tag r.code [BitVec.ofNat 8 r.written] }
    (∀ es, es.length = count.toNat → exec (.tableWriteCycle tag first count es) s = leaves cycleRules es)
    ∧ (∀ es, es.length = count.toNat → exec (.tableWriteNode tag first count es) s = leaves nodeRules es)
    ∧ (∀ es, es.length = count.toNat → exec (.tableWriteSection tag first count es) s = leaves sectionRules es)
    ∧ (∀ es, es.length = count.toNat → exec (.tableWriteLoop tag first count es) s = leaves loopRules es)
    ∧ (∀ es, es.length = count.toNat → exec (.tableWriteDemand tag first count es) s = leaves demandRules es)
    ∧ (∀ es, es.length = count.toNat → exec (.tableWriteHold tag first count es) s = leaves holdRules es)
    ∧ (∀ es, es.length = count.toNat → exec (.tableWriteAlarmMap tag first count es) s = leaves alarmRules es)
    ∧ (∀ es, es.length = count.toNat → exec (.tableWriteLinkSet tag first count es) s = leaves linkSetRules es)

/-- A CYCLE entry (R96, R95): refused with BUSY while the walk runs or stops, with BAD_VALUE where a field its kind reads
lies outside its values, and otherwise kept octet for octet in its slot, with nothing else changed. -/
def Obligations.CycleEntryWritten : Prop :=
  ∀ (i : Nat) (e : SlotEntry) (s : State), i ≤ 255 → s.store.state ≠ .writing →
    let k := e.kind.toNat
    let outside := 10 < k ∨ ((k = 0 ∨ k = 4) ∧ e.time = 0)
      ∨ (1 ≤ k ∧ k ≤ 3 ∧ (e.node.toNat = 0 ∨ 48 < e.node.toNat ∨ 1 < e.frame.toNat ∨ 1 < e.lane.toNat
          ∨ 3 < e.retries.toNat ∨ 1 < e.alternate.toNat))
    (s.seq.state = .running ∨ s.seq.state = .stopping → judgeEntry cycleRules i e s = .inl .busy)
    ∧ (s.seq.state = .idle ∨ s.seq.state = .halted →
      (outside → judgeEntry cycleRules i e s = .inl .badValue)
      ∧ (¬ outside → ∃ x, slotOctets x = slotEntryOctets e
          ∧ judgeEntry cycleRules i e s = .inr { s with cfg := { s.cfg with cycle := s.cfg.cycle.setIfInBounds i x } }))

/-- A NODE entry (R3 to R5, R176): its checks, and what an accepted entry changes: with the same kind, the record, and a
failure streak that a lowered count would reach; with another kind, also the sample state, health, demand and hold
entries, and the probe of a node that was SILENT. No report is queued. -/
def Obligations.NodeEntryWritten : Prop :=
  ∀ (a : Nat) (e : NodeEntry) (s : State), 1 ≤ a → a ≤ 48 → s.store.state ≠ .writing →
    let outside := 4 < e.kind.toNat ∨ 1 < e.lane.toNat ∨ 1 < e.report.toNat ∨ e.high.toInt < e.low.toInt
      ∨ e.silence.toNat = 0 ∨ 15 < e.silence.toNat
    let n := s.node a
    (outside → judgeEntry nodeRules a e s = .inl .badValue)
    ∧ (¬ outside → ∃ c, nodeOctets c = nodeEntryOctets e
      ∧ (c.kind ≠ s.kindOf a → hasRole s a = true → judgeEntry nodeRules a e s = .inl .badValue)
      ∧ (c.kind = s.kindOf a → judgeEntry nodeRules a e s = .inr { s with
          cfg := { s.cfg with nodes := s.cfg.nodes.setIfInBounds (a - 1) c },
          nodes := (if n.health = .active ∧ c.silence < (s.nodeCfg a).silence ∧ c.silence ≤ n.streak
            then s.nodes.setIfInBounds (a - 1) { n with streak := c.silence - 1 } else s.nodes) })
      ∧ (c.kind ≠ s.kindOf a → hasRole s a = false → judgeEntry nodeRules a e s = .inr { s with
          cfg := { s.cfg with
            nodes := s.cfg.nodes.setIfInBounds (a - 1) c,
            hold := s.cfg.hold.setIfInBounds (a - 1) (if c.kind = .valve ∨ c.kind = .pump then 1000 else 0) },
          nodes := (s.nodes.setIfInBounds (a - 1)
            { value := none, age := 255, lastRaw := none, lastStatus := none, lastSent := none, health := .active,
              streak := 0, probeCountdown := 0 }),
          demand := s.demand.setIfInBounds (a - 1) none,
          arb := { s.arb with
            probe := if n.health = .silent then s.arb.probe.filter (· ≠ .node a) else s.arb.probe } }))

/-- An accepted SECTION entry (R24, R66): the record, and from the record before and after it the section's sight,
ceiling, transient count, interval timer, flow and flush timer; E and V stand derived, every node of the section outside
its limit is queued behind what FROST held, and a section that enters BLIND raises its event. The counts, the balance
and every other section stand. The order of the two blocks' effects is the model's choice (log 17); that the
flow of a section disabled before and after is judged (log 18), and that an entry equal to the record derives and posts
like any other (log 16), are its readings. -/
def Obligations.SectionEntryWritten : Prop :=
  ∀ (i : Nat) (e : SectionEntry) (c : SectionCfg) (s : State), i < 8 → s.store.state ≠ .writing →
    sectionOfEntry e = some c → PostsWait s → RoomForReports s 1 →
    (sectionRolesOk s i c = false → judgeEntry sectionRules i e s = .inl .badValue)
    ∧ (sectionRolesOk s i c = true →
      let was := s.secCfg i
      let x := s.sec i
      let enabling := was.enabled = false ∧ c.enabled = true
      let disabling := was.enabled = true ∧ c.enabled = false
      let blinded := was.enabled = true ∧ c.enabled = true ∧ c.outlet ≠ was.outlet ∧ x.sight ≠ .blind
      let pulseEnds := x.flow = .flushing ∧ (disabling ∨ was.enabled = true ∧ c.valve ≠ was.valve)
      let judged := x.flow ≠ .flushing
        ∧ (enabling ∨ c.valve ≠ was.valve ∨ c.flushThreshold ≠ was.flushThreshold)
      let flow : Flow := if c.valve ≠ 0 ∧ (s.node c.valve).lastSent.any (fun v => decide (c.flushThreshold ≤ v))
        then .opened else .parked
      ∃ t, judgeEntry sectionRules i e s = .inr t
        ∧ t = { s with
            cfg := { s.cfg with sections := s.cfg.sections.setIfInBounds i c },
            sections := t.sections, arb := { s.arb with frost := t.arb.frost },
            eu := if blinded then unitAfter s .blind else s.eu,
            lu := { s.lu with
              reports := if blinded then reportsWith s [eventNow s .blind (.sec i) 0] else s.lu.reports } }
        ∧ (∀ j, j ≠ i → t.sec j = s.sec j)
        ∧ t.sec i = { x with
            sight := if disabling ∨ blinded then .blind else x.sight,
            ceiling := if disabling then 0
              else if blinded ∨ (c.blindCeiling ≠ was.blindCeiling ∧ x.sight = .blind)
                then min x.ceiling c.blindCeiling else x.ceiling,
            transient := if disabling then 0 else x.transient,
            interval := if enabling then
                some (1000 * if s.loop.deepFrost then s.cfg.loop.deepInterval else s.cfg.loop.normalInterval)
              else if disabling then none else x.interval,
            flow := if pulseEnds ∨ judged then flow else x.flow,
            flushTimer := if pulseEnds then none else x.flushTimer,
            fanCeiling := (t.sec i).fanCeiling, valveFloor := (t.sec i).valveFloor }
        ∧ SectionDerived t i
        ∧ s.arb.frost <+: t.arb.frost
        ∧ (∀ a ∈ t.arb.frost, a ∈ s.arb.frost ∨ a ∈ c.fans ∨ (a = c.valve ∧ a ≠ 0))
        ∧ (∀ a ∈ c.fans, (s.node a).health = .active →
            (s.node a).lastSent.all (fun v => decide ((t.sec i).fanCeiling < v)) → a ∈ t.arb.frost)
        ∧ (c.valve ≠ 0 → (s.node c.valve).health = .active →
            (s.node c.valve).lastSent.all (fun v => decide (v < (t.sec i).valveFloor)) → c.valve ∈ t.arb.frost))

/-- An accepted LOOP entry (R28): the record, and from the record before and after it the supply's ceiling and sight,
the return value and sight, the ambient sight and the deep-frost flag; where L has changed every section's E and V stand
derived; every pump below its floor is queued behind what FROST held, which the model checks at every accepted entry (log 16);
and a supply that enters BLIND raises its event. -/
def Obligations.LoopEntryWritten : Prop :=
  ∀ (e : LoopEntry) (c : LoopCfg) (s : State), s.store.state ≠ .writing → loopOfEntry e = some c →
    PostsWait s → RoomForReports s 1 →
    (loopRolesOk s c = false → judgeEntry loopRules 0 e s = .inl .badValue)
    ∧ (loopRolesOk s c = true →
      let was := s.cfg.loop
      let unused := c.supply ≠ was.supply ∧ c.supply = 0
      let blinded := c.supply ≠ was.supply ∧ c.supply ≠ 0 ∧ s.loop.supplySight ≠ .blind
      let cut := ¬ unused ∧ c.blindCeiling ≠ was.blindCeiling ∧ s.loop.supplySight = .blind
      ∃ t, judgeEntry loopRules 0 e s = .inr t
        ∧ t = { s with
            cfg := { s.cfg with loop := c },
            sections := t.sections, arb := { s.arb with frost := t.arb.frost },
            loop := { ceiling := if unused then 1000
                        else if blinded ∨ cut then min s.loop.ceiling c.blindCeiling else s.loop.ceiling,
                      supplySight := if unused then .seen else if blinded then .blind else s.loop.supplySight,
                      retValue := if c.ret = was.ret then s.loop.retValue else none,
                      retSight := if c.ret = was.ret then s.loop.retSight else .blind,
                      ambientSight := if c.ambient = was.ambient then s.loop.ambientSight else .blind,
                      deepFrost := if c.ambient = was.ambient then s.loop.deepFrost else true },
            eu := if blinded then unitAfter s .blind else s.eu,
            lu := { s.lu with
              reports := if blinded then reportsWith s [eventNow s .blind (.node c.supply) 0] else s.lu.reports } }
        ∧ (t.loop.ceiling = s.loop.ceiling → t.sections = s.sections)
        ∧ (t.loop.ceiling ≠ s.loop.ceiling → ∀ i, i < 8 → SectionDerived t i ∧ t.sec i = { s.sec i with
            fanCeiling := (t.sec i).fanCeiling, valveFloor := (t.sec i).valveFloor })
        ∧ s.arb.frost <+: t.arb.frost
        ∧ (∀ a ∈ c.pumps, (s.node a).health = .active →
            (s.node a).lastSent.all (fun v => decide (v < c.pumpFloor)) → a ∈ t.arb.frost)
        ∧ (t.loop.ceiling = s.loop.ceiling → ∀ a ∈ t.arb.frost, a ∈ s.arb.frost ∨ a ∈ c.pumps))

/-- Entries of the tables whose writing brings nothing else with it: DEMAND (R17), HOLD (R18), ALARM_MAP (R185, R186) and
LINK_SET (R71, R126, R143, R163). -/
def Obligations.PlainTableEntries : Prop :=
  ∀ s : State, s.store.state ≠ .writing →
    (∀ (a : Nat) (w : Word), 1 ≤ a → a ≤ 48 →
      (isActuator (s.kindOf a) = true →
        (w = 0xFFFF →
          judgeEntry demandRules a w s = .inr { s with demand := s.demand.setIfInBounds (a - 1) none })
        ∧ (w.toNat ≤ 1000 →
          judgeEntry demandRules a w s = .inr { s with demand := s.demand.setIfInBounds (a - 1) (some w.toNat) })
        ∧ (w ≠ 0xFFFF → 1000 < w.toNat → judgeEntry demandRules a w s = .inl .badValue)
        ∧ (w.toNat ≤ 1000 → judgeEntry holdRules a w s = .inr { s with
            cfg := { s.cfg with hold := s.cfg.hold.setIfInBounds (a - 1) w.toNat } })
        ∧ (1000 < w.toNat → judgeEntry holdRules a w s = .inl .badValue))
      ∧ (isActuator (s.kindOf a) = false →
        judgeEntry demandRules a w s = (if w = 0xFFFF then .inr s else .inl .badValue)
        ∧ judgeEntry holdRules a w s = (if w = 0 then .inr s else .inl .badValue)))
    ∧ (∀ (n : Nat) (b : Byte), n ≤ 11 →
      (∀ line, [AlarmLine.al0, .al1, .al2, .none][b.toNat]? = some line →
        judgeEntry alarmRules n b s = .inr { s with
          cfg := { s.cfg with alarm := s.cfg.alarm.setIfInBounds n line },
          eu := unitWith { s with cfg := { s.cfg with alarm := s.cfg.alarm.setIfInBounds n line } } s.eu.flags })
      ∧ (3 < b.toNat → judgeEntry alarmRules n b s = .inl .badValue))
    ∧ (∀ e : LinkSetEntry,
      let outside := e.responseTimeout.toNat < 10 ∨ e.probeInterval = 0 ∨ 1 < e.frostLevel.toNat
        ∨ 1 < e.flushLevel.toNat ∨ 1 < e.passLevel.toNat ∨ 1 < e.probeLevel.toNat ∨ 1 < e.autoHold.toNat
        ∨ e.linkTimeout = 0 ∨ e.fillInterval = 0
      (outside → judgeEntry linkSetRules 0 e s = .inl .badValue)
      ∧ (¬ outside → ∃ c, linkSetOctets c = linkSetEntryOctets e
          ∧ judgeEntry linkSetRules 0 e s = .inr { s with cfg := { s.cfg with linkSet := c } }))

/-! ## The controls -/

/-- PASS (R181): the findings in their order, and the accepted request at the tail of the PASS queue, its value held for
either operation. -/
def Obligations.PassRequests : Prop :=
  ∀ (tag node operation parameter : Byte) (value : Word) (s : State), Ready s →
    let a := node.toNat
    let answeredWith (code : ResultCode) : Host.Outcome State Fault Refusal :=
      .next { s with lu := answered s kindPass tag code [] }
    let result := exec (.pass tag node operation parameter value) s
    (1 < operation.toNat → result = answeredWith .badValue)
    ∧ (operation.toNat ≤ 1 →
      (a = 0 ∨ 48 < a → result = answeredWith .badIndex)
      ∧ (s.kindOf a = .none → result = answeredWith .badIndex)
      ∧ (s.kindOf a ≠ .none → (s.node a).health = .silent → result = answeredWith .nodeSilent)
      ∧ (s.kindOf a ≠ .none → (s.node a).health = .active → 8 ≤ s.arb.pass.length → result = answeredWith .full)
      ∧ (s.kindOf a ≠ .none → (s.node a).health = .active → s.arb.pass.length < 8 → PostsWait s →
        result = .next { s with
          arb := { s.arb with
            pass := (s.arb.pass ++
              [{ tag := tag, node := a, op := if operation = 0 then .paramRead else .paramWrite,
                 parameter := parameter, value := value }]) },
          lu := answered s kindPass tag .ok [] }))

/-- A PASS taken while a run-to-end window waits with every queue empty brings a decision at once (R131): where its budget
of (c + 7) octet times, the response timeout and the idle time fits the time left it is granted, the pointer of its level
moves, and its exchange begins (R128 to R130, R132); where it does not, the window closes with the request still queued
and the walk goes on (R133, R134), the closed record's kind and length being the model's choice
(log 20). -/
def Obligations.PassIntoWaitingWindow : Prop :=
  ∀ (tag node operation parameter : Byte) (value : Word) (s : State), Ready s →
    s.arb.window.isOpen = true → s.arb.window.kind = .runToEnd → s.arb.window.inFlight = none →
    s.arb.window.stopping = false → s.arb.frost = [] → s.arb.flush = [] → s.arb.pass = [] → s.arb.probe = [] →
    operation.toNat ≤ 1 → s.kindOf node.toNat ≠ .none → (s.node node.toNat).health = .active → ¬ s.BothDown →
    s.seq.timer = .counting →
    let a := node.toNat
    let kind : FrameKind := if operation = 0 then .paramRead else .paramWrite
    let frame := commandFrame a kind (if operation = 0 then [parameter] else parameter :: wordOctets value)
    let budget := (frame.length + 7) * 40 + 10 * s.cfg.linkSet.responseTimeout + 120
    let q : ExchangeRequest :=
      { origin := .pass, node := a, kind := kind, lane := (s.nodeCfg a).lane, retries := 0, alternate := false,
        retryOn := 0, sec := 0, tag := tag, parameter := parameter, value := value }
    (budget ≤ s.seq.timerLeft →
      exec (.pass tag node operation parameter value) s = .next { s with
        xe := { s.xe with flight := some (firstAttempt s q (preferredLane s a) none false frame) },
        arb := { s.arb with
          urgent := if s.cfg.linkSet.passLevel = .urgent then .pass else .group,
          routine := if s.cfg.linkSet.passLevel = .urgent then s.arb.routine else .pass,
          window := { s.arb.window with inFlight := some .pass } },
        lu := answered s kindPass tag .ok [] })
    ∧ (s.seq.timerLeft < budget → s.seq.state = .running → (s.slot (nextSlot s.seq.current)).kind = .gap →
      exec (.pass tag node operation parameter value) s = .next { s with
        seq := gapReached s.seq (nextSlot s.seq.current) (s.slot (nextSlot s.seq.current)).time,
        arb := { s.arb with
          pass := [{ tag := tag, node := a, op := if operation = 0 then .paramRead else .paramWrite,
                     parameter := parameter, value := value }],
          window := { isOpen := false, kind := .fixed, length := 0, elapsed := 0, stopping := false,
                      inFlight := none } },
        lu := answered s kindPass tag .ok [] })

/-- START (R100): NOT_NOW in RUNNING and STOPPING; in IDLE and HALTED the walk begins at the slot carried, which is
reached at once, and the answer is OK whatever the slot. A GAP waits; a STOP leaves IDLE; a RETURN halts with
EMPTY_RETURN and an exchange slot of a node of kind NONE with BAD_SLOT (R104, R105); a POLL slot begins its exchange; a
NOTE raises its event; JUMP and CALL go to their target, a second CALL halts with NESTED_CALL, a RETURN behind a CALL
goes on behind it, and a JUMP to itself halts with RUNAWAY (R106, R117 to R119); a WINDOW that finds every queue empty
closes at once, the minor-cycle timer being IDLE (R115, R134), its closed record as log 20 has it. A fixed WINDOW that
finds one queue filled grants its head where its budget fits and closes where it does not (R130, R132): the FROST head
and a FLUSH request that passes R60 or R65 as a DRIVE, the latter skipped where it does not, and a PROBE head as a
PROBE. -/
def Obligations.StartBySlot : Prop :=
  ∀ (tag slot : Byte) (s : State), Ready s →
    let x := s.slot slot.toNat
    let begun := begunAt s.seq slot.toNat
    let ok := answered s kindCommand tag .ok [1]
    let haltsAt (i : Nat) (cause : HaltCause) (detail : Byte) : Host.Outcome State Fault Refusal := .next { s with
      seq := { begun with state := .halted, current := i, haltCause := cause, haltSlot := i },
      eu := unitAfter s .seqHalt,
      lu := (replied { frameTaken s with
        reports := reportsWith s [eventNow s .seqHalt (.slot i) detail] } kindCommand tag .ok [1]) }
    let halts (cause : HaltCause) (detail : Byte) : Host.Outcome State Fault Refusal := haltsAt slot.toNat cause detail
    let next := nextSlot slot.toNat
    let target := x.target.toNat
    (s.seq.state = .running ∨ s.seq.state = .stopping →
      exec (.start tag slot) s = .next { s with lu := answered s kindCommand tag .notNow [1] })
    ∧ (s.seq.state = .idle ∨ s.seq.state = .halted →
      (x.kind = .gap → exec (.start tag slot) s = .next { s with seq := gapReached begun slot.toNat x.time, lu := ok })
      ∧ (x.kind = .stop → exec (.start tag slot) s = .next { s with seq := { begun with state := .idle }, lu := ok })
      ∧ (x.kind = .ret → RoomForReports s 1 → exec (.start tag slot) s = halts .emptyReturn 3)
      ∧ (x.kind = .exchange ∨ x.kind = .exchangeBranch ∨ x.kind = .retryOn → s.kindOf x.node.toNat = .none →
        RoomForReports s 1 → exec (.start tag slot) s = halts .badSlot 1)
      ∧ (∀ lane, x.kind = .exchange → x.frame = 0 → lanes[x.lane.toNat]? = some lane → s.kindOf x.node.toNat ≠ .none →
        (s.node x.node.toNat).health = .active → (s.lane lane).health = .up →
        exec (.start tag slot) s = .next { s with
          seq := { begun with activity := .exchange },
          xe := { s.xe with flight := some (firstAttempt s
            { origin := .slot, node := x.node.toNat, kind := .poll, lane := lane, retries := x.retries.toNat,
              alternate := x.alternate = 0, retryOn := 0, sec := 0, tag := 0, parameter := 0, value := 0 }
            lane none false (commandFrame x.node.toNat .poll [])) },
          lu := ok })
      ∧ (x.kind = .note → (s.slot next).kind = .gap → RoomForReports s 1 →
        exec (.start tag slot) s = .next { s with
          seq := gapReached begun next (s.slot next).time, eu := unitAfter s .note,
          lu := (replied { frameTaken s with reports := reportsWith s [eventNow s .note (.note x.note) 0] }
            kindCommand tag .ok [1]) })
      ∧ (x.kind = .jump →
        ((s.slot target).kind = .gap →
          exec (.start tag slot) s = .next { s with seq := gapReached begun target (s.slot target).time, lu := ok })
        ∧ (target = slot.toNat → RoomForReports s 1 → exec (.start tag slot) s = halts .runaway 4))
      ∧ (x.kind = .call →
        ((s.slot target).kind = .gap →
          exec (.start tag slot) s = .next { s with
            seq := { gapReached begun target (s.slot target).time with ret := some next }, lu := ok })
        ∧ ((s.slot target).kind = .ret → (s.slot next).kind = .gap →
          exec (.start tag slot) s = .next { s with seq := gapReached begun next (s.slot next).time, lu := ok })
        ∧ ((s.slot target).kind = .call → RoomForReports s 1 →
          exec (.start tag slot) s = haltsAt target .nestedCall 2))
      ∧ (x.kind = .window → NothingQueued s → (s.slot next).kind = .gap →
        exec (.start tag slot) s = .next { s with
          seq := gapReached begun next (s.slot next).time, arb := windowShut s.arb, lu := ok })
      ∧ (x.kind = .window → x.time ≠ 0 → ¬ s.BothDown →
        let opens := { begun with activity := .window }
        let fits (octets : Nat) : Prop := (octets + 7) * 40 + 10 * s.cfg.linkSet.responseTimeout + 120 ≤ 100 * x.time.toNat
        (∀ a rest, s.arb.frost = a :: rest → s.arb.flush = [] → s.arb.pass = [] → s.arb.probe = [] →
          (fits 5 → isActuator (s.kindOf a) = true → (s.node a).health = .active →
            exec (.start tag slot) s = .next { s with
              seq := opens, sections := clampsCounted s a (sourceValue s a),
              xe := { s.xe with flight := some (grantedDrive s (arbiterAsks s .frost a .drive) (sourceValue s a)) },
              arb := { pointersMoved .frost s.cfg.linkSet.frostLevel s.arb with
                frost := rest, window := fixedWindow x.time .frost },
              lu := ok })
          ∧ (¬ fits 5 → (s.slot next).kind = .gap →
            exec (.start tag slot) s = .next { s with
              seq := gapReached begun next (s.slot next).time, arb := windowShut s.arb, lu := ok }))
        ∧ (∀ r rest, s.arb.flush = r :: rest → s.arb.frost = [] → s.arb.pass = [] → s.arb.probe = [] → fits 5 →
          let isStart := r.kind = .pulseStart
          let level : Level := if isStart ∧ r.mandatory = true then .urgent else s.cfg.linkSet.flushLevel
          let v := (s.secCfg r.sec).valve
          let passes := (s.secCfg r.sec).enabled = true ∧ (s.node v).health = .active
            ∧ (isStart ∨ (s.sec r.sec).flow ≠ .flushing)
          let reports := isStart ∧ (s.secCfg r.sec).enabled = true ∧ (s.sec r.sec).blocked = false
          let before := if isStart then 1000 else sourceValue s v
          let origin : Origin := if isStart then .flushStart else .flushEnd
          (passes → isActuator (s.kindOf v) = true →
            exec (.start tag slot) s = .next { s with
              seq := opens, sections := clampsCounted s v before,
              xe := { s.xe with
                flight := some (grantedDrive s { arbiterAsks s origin v .drive with sec := r.sec } before) },
              arb := { pointersMoved .flush level s.arb with flush := rest, window := fixedWindow x.time origin },
              lu := ok })
          ∧ (¬ passes → rest = [] → (s.slot next).kind = .gap → RoomForReports s 1 →
            exec (.start tag slot) s = .next { s with
              seq := gapReached begun next (s.slot next).time,
              sections := if reports then s.sections.setIfInBounds r.sec { s.sec r.sec with blocked := true }
                else s.sections,
              arb := windowShut { pointersMoved .flush level s.arb with flush := [] },
              eu := if reports then unitAfter s .flushBlocked else s.eu,
              lu := (replied { frameTaken s with
                reports := if reports then reportsWith s [eventNow s .flushBlocked (.sec r.sec) 0] else s.lu.reports }
                kindCommand tag .ok [1]) }))
        ∧ (∀ p rest, s.arb.probe = p :: rest → s.arb.frost = [] → s.arb.flush = [] → s.arb.pass = [] → fits 3 →
          let granted (q : ExchangeRequest) (l : Lane) : Host.Outcome State Fault Refusal := .next { s with
            seq := opens,
            xe := { s.xe with flight := some (firstAttempt s q l none false (commandFrame q.node .probe [])) },
            arb := { pointersMoved .probe s.cfg.linkSet.probeLevel s.arb with
              probe := rest, window := fixedWindow x.time q.origin },
            lu := ok }
          (∀ a, p = .node a → s.kindOf a ≠ .none →
            exec (.start tag slot) s = granted (arbiterAsks s .nodeProbe a .probe) (preferredLane s a))
          ∧ (∀ l a, p = .lane l →
              (a = s.xe.lastGood ∧ a ≠ 0 ∧ s.kindOf a ≠ .none)
                ∨ ((s.xe.lastGood = 0 ∨ s.kindOf s.xe.lastGood = .none) ∧ 1 ≤ a ∧ a ≤ 48 ∧ s.kindOf a ≠ .none
                  ∧ ∀ k, k < a → s.kindOf k = .none) →
            exec (.start tag slot) s = granted { arbiterAsks s .laneProbe a .probe with lane := l } l))))

/-- STOP in RUNNING, by the activity of the current slot (R101): an exchange runs on in STOPPING; so does one granted in a
window, which is told to stop; a window with nothing in flight closes, and a MARK or GAP wait ends, and the sequencer
enters IDLE under R98. The kind and length of the closed record are the model's choice (log 20). -/
def Obligations.StopWhileRunning : Prop :=
  ∀ (tag : Byte) (s : State), Ready s → s.seq.state = .running →
    let ok := answered s kindCommand tag .ok [2]
    (s.seq.activity = .exchange →
      exec (.stop tag) s = .next { s with seq := { s.seq with state := .stopping }, lu := ok })
    ∧ (s.seq.activity = .window → s.arb.window.inFlight ≠ none →
      exec (.stop tag) s = .next { s with
        seq := { s.seq with state := .stopping },
        arb := { s.arb with window := { s.arb.window with stopping := true } }, lu := ok })
    ∧ (s.seq.activity = .window → s.arb.window.inFlight = none →
      exec (.stop tag) s = .next { s with
        seq := restingAs s.seq .idle,
        arb := { s.arb with window := { isOpen := false, kind := .fixed, length := 0, elapsed := 0,
                                        stopping := false, inFlight := none } }, lu := ok })
    ∧ (s.seq.activity = .markWait ∨ s.seq.activity = .gapWait →
      exec (.stop tag) s = .next { s with seq := restingAs s.seq .idle, lu := ok })

/-- R103: a STOP taken in STOPPING, IDLE or HALTED is answered OK and has no effect, and no command but a START or a
reset that begins STARTING takes the sequencer out of HALTED, with its halt cause and halt slot: no octet and no end of
the gap timer but one that brings a START frame whole out of the octets held and arriving. -/
def Obligations.StopOutsideRunning : Prop :=
  (∀ (tag : Byte) (s : State), Ready s → s.seq.state ≠ .running →
    exec (.stop tag) s = .next { s with lu := answered s kindCommand tag .ok [2] })
    ∧ (∀ (c : Instr) (s t : State), s.seq.state = .halted → WalkRests s → ReceiverSound s → ¬ s.Starting →
      exec c s = .next t →
      (t.seq.state = .halted ∧ t.seq.haltCause = s.seq.haltCause ∧ t.seq.haltSlot = s.seq.haltSlot)
        ∨ t.Starting
        ∨ ∃ tag slot, c = .start tag slot
            ∨ (∃ b, c = .receiverOctet b false ∧ linkFrame kindCommand tag [1, slot] <:+: s.lu.rx.held ++ [b])
            ∨ ((c = .gapTimerExpiry ∨ ∃ b, c = .receiverOctet b true)
                ∧ linkFrame kindCommand tag [1, slot] <:+: s.lu.rx.held))

/-- REVIVE of a node and of a lane (R90): the failure streak becomes 0; a SILENT node becomes ACTIVE with its probe
removed, its countdown 0, NODE_REVIVED queued and, standing outside its limit, its override posted (R88, R48); a DOWN
lane becomes UP with its probe removed, its countdown 0 and LANE_UP queued. An address or lane that names none, and a
node of kind NONE, is refused. -/
def Obligations.Revive : Prop :=
  ∀ (tag : Byte) (s : State), Ready s → RoomForReports s 1 →
    (∀ node : Byte,
      let a := node.toNat
      let n := s.node a
      (s.kindOf a = .none → exec (.reviveNode tag node) s
        = .next { s with lu := answered s kindCommand tag .badIndex [6] })
      ∧ (s.kindOf a ≠ .none → n.health = .active → exec (.reviveNode tag node) s = .next { s with
          nodes := s.nodes.setIfInBounds (a - 1) { n with streak := 0 },
          lu := answered s kindCommand tag .ok [6] })
      ∧ (s.kindOf a ≠ .none → n.health = .silent → PostsWait s → exec (.reviveNode tag node) s = .next { s with
          nodes := s.nodes.setIfInBounds (a - 1) { n with health := .active, streak := 0, probeCountdown := 0 },
          arb := { s.arb with probe := s.arb.probe.filter (· ≠ .node a),
                              frost := frostWith s (standsOutside s a) a },
          lu := (replied { frameTaken s with reports := reportsWith s [infoNow s .nodeRevived (.node a) 0] }
            kindCommand tag .ok [6]) }))
    ∧ (∀ (lane : Byte),
      (1 < lane.toNat → exec (.reviveLane tag lane) s
        = .next { s with lu := answered s kindCommand tag .badIndex [6] })
      ∧ (∀ l, lanes[lane.toNat]? = some l →
        ((s.lane l).health = .up → exec (.reviveLane tag lane) s = .next { s with
          xe := (s.setLane l { s.lane l with streak := 0 }).xe, lu := answered s kindCommand tag .ok [6] })
        ∧ ((s.lane l).health = .down → exec (.reviveLane tag lane) s = .next { s with
          xe := (s.setLane l { s.lane l with health := .up, streak := 0, probeCountdown := 0 }).xe,
          arb := { s.arb with probe := s.arb.probe.filter (· ≠ .lane l) },
          lu := (replied { frameTaken s with reports := reportsWith s [infoNow s .laneUp (.lane l) 0] }
            kindCommand tag .ok [6]) })))

/-- FLUSH (R59): refused outside the sections and for a section not enabled; otherwise a START that is not mandatory joins
the FLUSH queue, unless a START of the section is queued already and absorbs it. -/
def Obligations.FlushCommand : Prop :=
  ∀ (tag sec : Byte) (s : State), Ready s →
    (7 < sec.toNat → exec (.flush tag sec) s = .next { s with lu := answered s kindCommand tag .badIndex [7] })
    ∧ (sec.toNat ≤ 7 → (s.secCfg sec.toNat).enabled = false →
      exec (.flush tag sec) s = .next { s with lu := answered s kindCommand tag .badValue [7] })
    ∧ (sec.toNat ≤ 7 → (s.secCfg sec.toNat).enabled = true →
      (s.arb.flush.any (fun r => decide (r.key = (sec.toNat, .pulseStart))) = true →
        exec (.flush tag sec) s = .next { s with lu := answered s kindCommand tag .ok [7] })
      ∧ (s.arb.flush.any (fun r => decide (r.key = (sec.toNat, .pulseStart))) = false → PostsWait s →
        exec (.flush tag sec) s = .next { s with
          arb := { s.arb with flush := s.arb.flush ++ [{ sec := sec.toNat, kind := .pulseStart, mandatory := false }] },
          lu := answered s kindCommand tag .ok [7] }))

/-- RESET FIELD (R180), with a walk that restarts at a GAP: the exchange in flight is abandoned with no result (R92), the
arbiter takes its reset values (R125, R139), every running pulse ends with the flow judged from the valve's last sent
and E and V derived, its overrides joining the emptied FROST queue (R67), and the walk restarts at slot 0, or ends a
stop, or stands (R99). Nothing else changes: no health, no lane, no flag, no report, no demand. That the idle time runs anew from an attempt
cut off after it began to send is the model's choice (log 14), and so are the kind and length of the reset window
record (log 20). -/
def Obligations.FieldReset : Prop :=
  ∀ (tag : Byte) (s : State), Ready s → (s.seq.state = .running → (s.slot 0).kind = .gap) →
    let flowOf (i : Nat) : Flow :=
      if (s.secCfg i).valve ≠ 0 ∧ (s.node (s.secCfg i).valve).lastSent.any
        (fun v => decide ((s.secCfg i).flushThreshold ≤ v)) then .opened else .parked
    ∃ t, exec (.resetField tag) s = .next t
      ∧ t = { s with
          xe := { s.xe with flight := none, idleLeft := (match s.xe.flight with
            | some f => if f.phase = .idle then s.xe.idleLeft else 120
            | none => s.xe.idleLeft) },
          arb := { frost := t.arb.frost, flush := [], pass := [], probe := [], urgent := .group, routine := .probe,
                   window := { isOpen := false, kind := .fixed, length := 0, elapsed := 0, stopping := false,
                               inFlight := none }, due := false },
          sections := t.sections,
          seq := (match s.seq.state with
            | .running => gapReached { restingAs s.seq .running with current := 0 } 0 (s.slot 0).time
            | .stopping => restingAs s.seq .idle
            | .idle => s.seq
            | .halted => s.seq),
          lu := answered s kindCommand tag .ok [9] }
      ∧ (∀ i, i < 8 → (s.sec i).flow ≠ .flushing → t.sec i = s.sec i)
      ∧ (∀ i, i < 8 → (s.sec i).flow = .flushing → SectionDerived t i
          ∧ t.sec i = { s.sec i with flow := flowOf i, flushTimer := none, fanCeiling := (t.sec i).fanCeiling,
                                     valveFloor := (t.sec i).valveFloor }
          ∧ (∀ a ∈ (s.secCfg i).fans, (s.node a).health = .active →
              (s.node a).lastSent.all (fun v => decide ((t.sec i).fanCeiling < v)) → a ∈ t.arb.frost))
      ∧ (∀ a ∈ t.arb.frost, ∃ i, i < 8 ∧ (s.sec i).flow = .flushing
          ∧ (a ∈ (s.secCfg i).fans ∨ a = (s.secCfg i).valve))

/-! ## The field -/

/-- An attempt as it goes on (R74, R75): the idle time ends and the command frame is sent; at its end the response timer
starts; reply octets on the lane of the attempt are held, the first six of them starting the 40 µs to the next and the
first the 360 µs of the reply; octets on the other lane, or before the frame has been sent, are discarded. That a row acts only in its own phase, and
that 320 µs are left at the end of the first octet, is the model's reading (logs 4 and 15). -/
def Obligations.AttemptProgress : Prop :=
  ∀ s : State, AtRest s →
    (∀ f, s.xe.flight = some f →
      (f.phase = .idle → exec .idleTimeEnd s = .next { s with
        xe := { s.xe with idleLeft := 0, flight := some { f with phase := .sending } } })
      ∧ (f.phase = .sending → exec .commandFrameSent s = .next { s with
        xe := { s.xe with flight := some { f with
          phase := .waiting, frameLeft := 0, replyLeft := 10 * s.cfg.linkSet.responseTimeout } } })
      ∧ (f.phase ≠ .idle → exec .idleTimeEnd s = .next { s with xe := { s.xe with idleLeft := 0 } })
      ∧ (f.phase ≠ .sending → exec .commandFrameSent s = .next s)
      ∧ (f.phase ≠ .waiting → exec .responseTimerExpiry s = .next s)
      ∧ (f.phase ≠ .receiving → exec .replyGapExpiry s = .next s ∧ exec .replyWindowExpiry s = .next s)
      ∧ (∀ lane b bad, lane ≠ f.lane ∨ f.phase = .idle ∨ f.phase = .sending →
        exec (.replyOctet lane b bad) s = .next s)
      ∧ (∀ b, f.phase = .waiting ∨ f.phase = .receiving → f.octets.length ≠ 6 →
        exec (.replyOctet f.lane b false) s = .next { s with
          xe := { s.xe with flight := some { f with
            phase := .receiving, octets := f.octets ++ [b], replyLeft := 0, gapLeft := 40,
            windowLeft := if f.phase = .waiting then 320 else f.windowLeft } } }))
    ∧ (s.xe.flight = none →
      exec .idleTimeEnd s = .next { s with xe := { s.xe with idleLeft := 0 } }
      ∧ exec .commandFrameSent s = .next s ∧ exec .responseTimerExpiry s = .next s
      ∧ exec .replyGapExpiry s = .next s ∧ exec .replyWindowExpiry s = .next s
      ∧ ∀ lane b bad, exec (.replyOctet lane b bad) s = .next s)

/-- An attempt that does not end its exchange. A failed attempt with a retry left (R75, R76, R78, R83): its lane counts
the error and one more failure, and goes DOWN at the eighth in a row with LANE_DOWN. A valid reply that a RETRY_ON slot
discards, with a retry left (R80, R84): its lane's streak becomes 0 and a DOWN lane comes UP, and the Node Table, node
health and the sample report take nothing. In both the idle time is counted anew, and the next attempt is prepared on
the lane that R78 gives, bypassing a lane that is DOWN. Nothing else changes. -/
def Obligations.FailedAttemptRetries : Prop :=
  (∀ (c : Instr) (e : TransferError) (f : Flight) (s : State), s.xe.flight = some f → AttemptFails f c e →
    f.attempt ≤ f.request.retries → f.request.origin ≠ .laneProbe → Settled s → RoomForReports s 1 →
    let x := s.lane f.lane
    let u := s.setLane f.lane (laneAfterFailure x e)
    ¬ u.BothDown →
    exec c s = .next { s with
      xe := { u.xe with idleLeft := 120, flight := some { f with
        attempt := f.attempt + 1, lane := laneOfAttempt u f.request (f.attempt + 1), phase := .idle, octets := [],
        frameLeft := 40 * f.frame.length, replyLeft := 0, gapLeft := 0, windowLeft := 0 } },
      eu := if GoesDown x then unitAfter s .laneDown else s.eu,
      lu := sendIfFree { s.lu with
        reports := if GoesDown x then reportsWith s [eventNow s .laneDown (.lane f.lane) 0] else s.lu.reports } })
    ∧ (∀ (ks v1 v0 p1 p0 check : Byte) (f : Flight) (s : State), s.xe.flight = some f → f.phase = .receiving →
      f.octets = [BitVec.ofNat 8 f.request.node, ks, v1, v0, p1, p0] → check = crc8 f.octets →
      1 ≤ f.request.node → f.request.node ≤ 48 → ks.getLsbD 7 = true →
      (ks.extractLsb' 4 3).setWidth 8 = f.request.kind.code → f.attempt ≤ f.request.retries →
      f.request.origin ≠ .laneProbe → Settled s → RoomForReports s 1 →
      let on (n : Nat) : Prop := ks.getLsbD n = true ∧ f.request.retryOn.getLsbD (n + 2) = true
      on 0 ∨ on 1 ∨ on 2 ∨ on 3 →
      let x := s.lane f.lane
      let u := s.setLane f.lane (laneAfterSuccess x)
      exec (.replyOctet f.lane check false) s = .next { s with
        xe := { u.xe with lastGood := f.request.node, idleLeft := 120, flight := some { f with
          attempt := f.attempt + 1, lane := laneOfAttempt u f.request (f.attempt + 1), phase := .idle, octets := [],
          frameLeft := 40 * f.frame.length, replyLeft := 0, gapLeft := 0, windowLeft := 0 } },
        arb := { s.arb with
          probe := if x.health = .down then s.arb.probe.filter (· ≠ .lane f.lane) else s.arb.probe },
        lu := sendIfFree { s.lu with reports :=
          if x.health = .down then reportsWith s [infoNow s .laneUp (.lane f.lane) 0] else s.lu.reports } })

/-- A failed attempt that ends its exchange, because no retry is left or both lanes are DOWN (R78, R81, R82, R86, R87,
R89, R102, R111, R112, R136, R137): the exchange ends FAILED with TRANSFER_FAIL; but for a probe, an ACTIVE node gains
one failure unless both lanes are DOWN, and at its silence count becomes SILENT with NODE_SILENT, its FROST entry removed
(also where a scheduled DRIVE fails, although R188 keeps the entry: log 36) and its probe countdown loaded; a failed
probe leaves the node as it is. The Node Table and Flush Accounting take nothing, a PASS is answered by its PASS_REPLY,
and the walk goes on or the window takes the end (a closed record as log 20 has it). -/
def Obligations.FailedExchangeEnds : Prop :=
  ∀ (c : Instr) (e : TransferError) (f : Flight) (s : State), s.xe.flight = some f → AttemptFails f c e →
    1 ≤ f.attempt → 1 ≤ f.request.node → Settled s → RoomForReports s 3 →
    let a := f.request.node
    let origin := f.request.origin
    let n := s.node a
    let x := s.lane f.lane
    let u := s.setLane f.lane (laneAfterFailure x e)
    f.request.retries < f.attempt ∨ (u.BothDown ∧ origin ≠ .laneProbe) →
    let strikes := origin ≠ .nodeProbe ∧ origin ≠ .laneProbe ∧ n.health = .active ∧ ¬ u.BothDown
    let silenced := strikes ∧ (s.nodeCfg a).silence ≤ n.streak + 1
    let conditions : Conditions :=
      { transferFail := true, skipped := false, busy := false, fault := false, localCtl := false, ice := false,
        range := false, clamped := f.clamped }
    let failed : State := { s with
      nodes := (if silenced then (s.nodes.setIfInBounds (a - 1)
          { n with health := .silent, streak := n.streak + 1, probeCountdown := s.cfg.linkSet.probeInterval })
        else if strikes then s.nodes.setIfInBounds (a - 1) { n with streak := n.streak + 1 } else s.nodes),
      xe := { u.xe with idleLeft := 120, lastResult := (some
        { node := a, origin := origin, kind := f.request.kind, valueSent := f.valueSent, outcome := .failed,
          conditions := conditions, attempts := some f.attempt, lastLane := some f.lane, replyValue := none,
          time := s.plantTime, cycle := s.seq.cycle }) },
      arb := { s.arb with frost := if silenced then s.arb.frost.filter (· ≠ a) else s.arb.frost },
      eu := (if GoesDown x ∨ silenced then
          unitWith s (s.eu.flags ||| (if GoesDown x then flagBit .laneDown else 0)
            ||| (if silenced then flagBit .nodeSilent else 0))
        else s.eu),
      lu := { s.lu with reports := (reportsWith s
        ((if GoesDown x then [eventNow s .laneDown (.lane f.lane) 0] else [])
          ++ (if silenced then [eventNow s .nodeSilent (.node a) 0] else [])
          ++ (if origin = .pass then
            [.passReply { tag := f.request.tag, node := a,
                          op := if f.request.kind = .paramWrite then .paramWrite else .paramRead,
                          parameter := f.request.parameter, outcome := .failed, conditions := conditions,
                          value := none, time := s.plantTime, cycle := s.seq.cycle }] else []))) } }
    EndsTold origin failed conditions →
    exec c s = .next (endedAs origin failed conditions)

/-- A valid reply ends a POLL, a DRIVE or a PROBE, whoever asked for it (R6 to R13, R80 to R84, R86, R88, R136): the
lane's streak becomes 0 and a DOWN lane comes UP; the node's streak becomes 0, and a SILENT node comes back ACTIVE, its
probe removed and its override posted where it stands outside its limit; its last raw and last status are the reply's,
its last sent that of a successful DRIVE to an actuator, and its value and age change at an arrival, which a fresh value
within the valid range makes; the sample report is queued; then the DRIVE and the arrival are handed on, a FLUSH START's
end goes to Flush Accounting, and the walk goes on or the window takes the end (a closed record as log 20 has it). -/
def Obligations.ValidReplyEnds : Prop :=
  ∀ (ks v1 v0 p1 p0 check : Byte) (f : Flight) (s : State), s.xe.flight = some f →
    f.phase = .receiving → f.request.kind = .poll ∨ f.request.kind = .drive ∨ f.request.kind = .probe →
    f.request.origin ≠ .pass →
    let a := f.request.node
    let origin := f.request.origin
    let c := s.nodeCfg a
    let n := s.node a
    let x := s.lane f.lane
    let st : Status := { busy := ks.getLsbD 0, fault := ks.getLsbD 1, localCtl := ks.getLsbD 2, ice := ks.getLsbD 3 }
    let raw := (v1 ++ v0 : Word).toInt
    let fresh := st.busy = false ∧ st.fault = false
    let v := max (-32768) (min 32767 (raw * c.gain / 4096 + c.offset))
    let arrival := fresh ∧ c.low ≤ v ∧ v ≤ c.high
    let drove := f.request.kind = .drive ∧ isActuator c.kind = true
    let revived := n.health = .silent
    let conditions : Conditions :=
      { transferFail := false, skipped := false, busy := st.busy, fault := st.fault, localCtl := st.localCtl,
        ice := st.ice, range := decide (fresh ∧ ¬ arrival), clamped := f.clamped }
    f.octets = [BitVec.ofNat 8 a, ks, v1, v0, p1, p0] → check = crc8 f.octets → 1 ≤ a → a ≤ 48 →
    ks.getLsbD 7 = true → (ks.extractLsb' 4 3).setWidth 8 = f.request.kind.code →
    f.request.retries < f.attempt ∨ retryWanted f.request st = false → c.kind ≠ .none →
    Settled s → PostsWait s → RoomForReports s 3 →
    let heard := if x.health = .down then s.arb.probe.filter (· ≠ .lane f.lane) else s.arb.probe
    let taken : State := { s with
      nodes := (s.nodes.setIfInBounds (a - 1)
        { value := if arrival then some v else n.value, age := if arrival then 0 else n.age, lastRaw := some raw,
          lastStatus := some st, lastSent := if fresh ∧ drove then f.valueSent else n.lastSent, health := .active,
          streak := 0, probeCountdown := if revived then 0 else n.probeCountdown }),
      xe := { (s.setLane f.lane (laneAfterSuccess x)).xe with
        lastGood := a, idleLeft := 120, lastResult := (some
          { node := a, origin := origin, kind := f.request.kind, valueSent := f.valueSent, outcome := .done,
            conditions := conditions, attempts := some f.attempt, lastLane := some f.lane, replyValue := some raw,
            time := s.plantTime, cycle := s.seq.cycle }) },
      arb := { s.arb with
        probe := if revived then heard.filter (· ≠ .node a) else heard,
        frost := frostWith s (decide revived && standsOutside s a) a },
      lu := { s.lu with reports := (reportsWith s
        ((if x.health = .down then [infoNow s .laneUp (.lane f.lane) 0] else [])
          ++ (if revived then [infoNow s .nodeRevived (.node a) 0] else [])
          ++ (if c.report = .every then
            [.sample { node := a, time := s.plantTime, cycle := s.seq.cycle, value := if arrival then some v else none,
                       status := st, valueSent := if drove then f.valueSent else none,
                       clamped := decide (drove ∧ f.clamped = true) }] else []))) } }
    let driven := if fresh ∧ f.request.kind = .drive then handDrive a n.lastSent f.valueSent taken else taken
    let told := if arrival then handArrival a v driven else driven
    let handed := if origin = .flushStart then
      flushStartResult f.request.sec a (decide (fresh ∧ f.request.kind = .drive)) told else told
    EndsTold origin handed conditions →
    exec (.replyOctet f.lane check false) s = .next (endedAs origin handed conditions)

/-- Arrivals by role (R12, TABLE 1-4). A section's outlet (R31 to R34): sight SEEN; the headroom over the freeze point and
the margin in effect gives the raw ceiling, a rise is limited, E and V derive, every ACTIVE fan then above E and the
valve below V stands in FROST behind what it held, and FROST_STOP is raised as C falls to 0; a disabled section takes
none. The supply (R35, R36) likewise for L and, where it changes, for every section; the return and ambient nodes (R41,
R42) write the loop's sights, the return value and the deep-frost flag; a node in none of these roles is handed to no
block. -/
def Obligations.ArrivalHandOff : Prop :=
  ∀ (a : Nat) (v : Int) (s : State), RoomForReports s 1 → PostsWait s →
    let raw (headroom : Int) (band : Nat) : Nat :=
      if headroom ≤ 0 then 0 else if (band : Int) ≤ headroom then 1000 else (1000 * headroom / band).toNat
    let limited (r prev rise : Nat) : Nat := if r ≤ prev then r else min r (prev + rise)
    (∀ i, s.outletSection a = some i → (s.secCfg i).enabled = false → handArrival a v s = s)
    ∧ (∀ i, s.outletSection a = some i → (s.secCfg i).enabled = true →
      let c := s.secCfg i
      let x := s.sec i
      let new := limited (raw (v - s.cfg.loop.freezePoint
        - (if x.transient = 0 then c.nominalMargin else c.transientMargin : Nat)) c.band) x.ceiling c.riseLimit
      let stop := 0 < x.ceiling ∧ new = 0
      let t := handArrival a v s
      t = { s with sections := t.sections, arb := { s.arb with frost := t.arb.frost },
                   eu := if stop then unitAfter s .frostStop else s.eu,
                   lu := { s.lu with
                     reports := if stop then reportsWith s [eventNow s .frostStop (.sec i) 0] else s.lu.reports } }
        ∧ t.sec i = { x with sight := .seen, ceiling := new, fanCeiling := (t.sec i).fanCeiling,
                             valveFloor := (t.sec i).valveFloor }
        ∧ SectionDerived t i ∧ (∀ j, j ≠ i → t.sec j = s.sec j) ∧ s.arb.frost <+: t.arb.frost ∧ OverridesQueued s t i
        ∧ (∀ b ∈ t.arb.frost, b ∈ s.arb.frost
            ∨ (b ∈ c.fans ∧ (s.node b).health = .active
                ∧ (s.node b).lastSent.all (fun w => decide ((t.sec i).fanCeiling < w)))
            ∨ (b = c.valve ∧ b ≠ 0 ∧ (s.node b).health = .active
                ∧ (s.node b).lastSent.all (fun w => decide (w < (t.sec i).valveFloor)))))
    ∧ (s.outletSection a = none → s.cfg.loop.supply = a →
      let new := limited (raw (v - s.cfg.loop.supplyFloor) s.cfg.loop.band) s.loop.ceiling s.cfg.loop.riseLimit
      let stop := 0 < s.loop.ceiling ∧ new = 0
      let t := handArrival a v s
      t = { s with sections := t.sections, arb := { s.arb with frost := t.arb.frost },
                   loop := { s.loop with supplySight := .seen, ceiling := new },
                   eu := if stop then unitAfter s .frostStop else s.eu,
                   lu := { s.lu with
                     reports := if stop then reportsWith s [eventNow s .frostStop (.node a) 0] else s.lu.reports } }
        ∧ (new = s.loop.ceiling → t.sections = s.sections ∧ t.arb.frost = s.arb.frost)
        ∧ (new ≠ s.loop.ceiling → ∀ i, i < 8 → SectionDerived t i ∧ OverridesQueued s t i
            ∧ t.sec i = { s.sec i with fanCeiling := (t.sec i).fanCeiling, valveFloor := (t.sec i).valveFloor })
        ∧ s.arb.frost <+: t.arb.frost
        ∧ (∀ b ∈ t.arb.frost, b ∈ s.arb.frost
            ∨ ∃ i, i < 8 ∧ (b ∈ (s.secCfg i).fans ∨ (b = (s.secCfg i).valve ∧ b ≠ 0))))
    ∧ (s.outletSection a = none → s.cfg.loop.supply ≠ a → s.cfg.loop.ambient = a → handArrival a v s
        = { s with loop := { s.loop with
              ambientSight := .seen, deepFrost := decide (v < s.cfg.loop.deepThreshold) } })
    ∧ (s.outletSection a = none → s.cfg.loop.supply ≠ a → s.cfg.loop.ambient ≠ a → s.cfg.loop.ret = a →
        handArrival a v s = { s with loop := { s.loop with retValue := some v, retSight := .seen } })
    ∧ (s.outletSection a = none → s.cfg.loop.supply ≠ a → s.cfg.loop.ambient ≠ a → s.cfg.loop.ret ≠ a →
        handArrival a v s = s)

/-- Successful DRIVEs by role (R7, R43, R47, R53, R61). A section's valve: unless a pulse runs, the flow is judged from the
last sent, a changed flow derives E and V, and a value other than the last one sent before it starts the transient
window; a fan, a pump or a node in no role: the override check of that node alone. A FLUSH START that succeeded on the
section's own valve begins the pulse: FLUSHING, the flush timer loaded, the blocked mark cleared. That a disabled
section's flow is judged too is the model's reading (log 18). -/
def Obligations.DriveHandOff : Prop :=
  ∀ s : State, PostsWait s →
    (∀ (a i : Nat) (prev new : Option Nat), s.valveSection a = some i → s.fanSection a = none →
      let x := s.sec i
      let flow : Flow := if x.flow = .flushing then .flushing
        else if (s.node a).lastSent.any (fun v => decide ((s.secCfg i).flushThreshold ≤ v)) then .opened else .parked
      let t := handDrive a prev new s
      t = { s with sections := t.sections, arb := { s.arb with frost := t.arb.frost } }
        ∧ (∀ j, j ≠ i → t.sec j = s.sec j)
        ∧ t.sec i = { x with flow := flow,
                             transient := if new = prev then x.transient else (s.secCfg i).transientWindow,
                             fanCeiling := (t.sec i).fanCeiling, valveFloor := (t.sec i).valveFloor }
        ∧ (flow ≠ x.flow → SectionDerived t i)
        ∧ (flow = x.flow → (t.sec i).fanCeiling = x.fanCeiling ∧ (t.sec i).valveFloor = x.valveFloor)
        ∧ s.arb.frost <+: t.arb.frost
        ∧ ((s.node a).health = .active →
            (s.node a).lastSent.all (fun v => decide (v < (t.sec i).valveFloor)) → a ∈ t.arb.frost))
    ∧ (∀ (a : Nat) (prev new : Option Nat), s.valveSection a = none →
      handDrive a prev new s = { s with arb := { s.arb with
        frost := frostWith s (decide ((s.node a).health = .active) && standsOutside s a) a } })
    ∧ (∀ (i node : Nat) (success : Bool), i < 8 →
      let c := s.secCfg i
      let t := flushStartResult i node success s
      (success = false ∨ c.enabled = false ∨ c.valve ≠ node → t = s)
      ∧ (success = true → c.enabled = true → c.valve = node →
        t = { s with sections := t.sections, arb := { s.arb with frost := t.arb.frost } }
          ∧ (∀ j, j ≠ i → t.sec j = s.sec j)
          ∧ t.sec i = { s.sec i with flow := .flushing, flushTimer := some (1000 * c.flushDuration), blocked := false,
                                     fanCeiling := (t.sec i).fanCeiling, valveFloor := (t.sec i).valveFloor }
          ∧ ((s.sec i).flow ≠ .flushing → (t.sec i).fanCeiling = 0 ∧ (t.sec i).valveFloor = 1000
              ∧ ∀ b ∈ c.fans, (s.node b).health = .active →
                (s.node b).lastSent.all (fun w => decide (0 < w)) → b ∈ t.arb.frost)))

/-- A DRIVE slot (R19, R45, R46, R20): the value before limits is the demand entry in SUPERVISED where it is set and the
hold entry otherwise; the value sent is that value cut to E for a fan, raised to V for a valve and to the pump floor for
a pump; it lies within the limits of the node's role, a difference counts one clamp in the section, and the frame
carries it. -/
def Obligations.DriveSlotClamps : Prop :=
  ∀ (tag slot : Byte) (lane : Lane) (s : State), Ready s → s.seq.state = .idle ∨ s.seq.state = .halted →
    let x := s.slot slot.toNat
    let a := x.node.toNat
    x.kind = .exchange → x.frame = 1 → lanes[x.lane.toNat]? = some lane → isActuator (s.kindOf a) = true →
    (s.node a).health = .active → (s.lane lane).health = .up →
    let before := if s.mode = .supervised then (s.demandOf a).getD (s.holdOf a) else s.holdOf a
    let sent := match s.fanSection a, s.valveSection a with
      | some i, _ => min before (s.sec i).fanCeiling
      | none, some i => max before (s.sec i).valveFloor
      | none, none => if s.isPump a then max before s.cfg.loop.pumpFloor else before
    let owner := if s.fanSection a = none then s.valveSection a else s.fanSection a
    WithinLimits s a sent
      ∧ exec (.start tag slot) s = .next { s with
          seq := { begunAt s.seq slot.toNat with activity := .exchange },
          sections := (match owner with
            | some i => if sent = before then s.sections else s.sections.setIfInBounds i
                { s.sec i with clamps := satSucc 65535 (s.sec i).clamps }
            | none => s.sections),
          xe := { s.xe with flight := some (firstAttempt s
            { origin := .slot, node := a, kind := .drive, lane := lane, retries := x.retries.toNat,
              alternate := x.alternate = 0, retryOn := 0, sec := 0, tag := 0, parameter := 0, value := 0 }
            lane (some sent) (decide (sent ≠ before)) (commandFrame a .drive (natOctets sent))) },
          lu := answered s kindCommand tag .ok [1] }

/-- A PASS exchange that ends with a valid reply while STOPPING (R102, R136, R137): health takes it, the Node Table does
not, its PASS_REPLY with the parameter value is queued, the window closes and the sequencer enters IDLE. The
kind and length of the closed record are the model's choice (log 20). -/
def Obligations.PassReplyWhileStopping : Prop :=
  ∀ (ks v1 v0 p1 p0 check : Byte) (f : Flight) (s : State), s.xe.flight = some f →
    f.phase = .receiving → f.request.origin = .pass → f.request.kind = .paramRead ∨ f.request.kind = .paramWrite →
    let a := f.request.node
    let n := s.node a
    let st : Status := { busy := ks.getLsbD 0, fault := ks.getLsbD 1, localCtl := ks.getLsbD 2, ice := ks.getLsbD 3 }
    let value := (p1 ++ p0 : Word).toInt
    let conditions : Conditions :=
      { transferFail := false, skipped := false, busy := st.busy, fault := st.fault, localCtl := st.localCtl,
        ice := st.ice, range := false, clamped := f.clamped }
    f.octets = [BitVec.ofNat 8 a, ks, v1, v0, p1, p0] → check = crc8 f.octets → 1 ≤ a → a ≤ 48 →
    ks.getLsbD 7 = true → (ks.extractLsb' 4 3).setWidth 8 = f.request.kind.code →
    retryWanted f.request st = false → n.health = .active → (s.lane f.lane).health = .up →
    s.seq.state = .stopping → s.arb.window.stopping = true → Settled s → RoomForReports s 1 →
    exec (.replyOctet f.lane check false) s = .next { s with
      nodes := s.nodes.setIfInBounds (a - 1) { n with streak := 0 },
      xe := { (s.setLane f.lane (laneAfterSuccess (s.lane f.lane))).xe with
        lastGood := a, idleLeft := 120, flight := none, lastResult := (some
          { node := a, origin := .pass, kind := f.request.kind, valueSent := f.valueSent, outcome := .done,
            conditions := conditions, attempts := some f.attempt, lastLane := some f.lane, replyValue := some value,
            time := s.plantTime, cycle := s.seq.cycle }) },
      arb := { s.arb with window := { isOpen := false, kind := .fixed, length := 0, elapsed := 0, stopping := false,
                                      inFlight := none } },
      seq := restingAs s.seq .idle,
      lu := sendIfFree { s.lu with reports := (reportsWith s
        [.passReply { tag := f.request.tag, node := a,
                      op := if f.request.kind = .paramWrite then .paramWrite else .paramRead,
                      parameter := f.request.parameter, outcome := .done, conditions := conditions,
                      value := some value, time := s.plantTime, cycle := s.seq.cycle }]) } }

/-- WAIT_TIMER_EXPIRY (R114): the GAP ends and the next slot is reached: another GAP waits, a STOP enters IDLE, and a MARK
found with the minor-cycle timer COUNTING waits for its zero (R108). Outside a GAP nothing happens. -/
def Obligations.WaitTimerExpiry : Prop :=
  ∀ s : State, AtRest s →
    let i := nextSlot s.seq.current
    (s.seq.activity ≠ .gapWait → exec .waitTimerExpiry s = .next s)
    ∧ (s.seq.activity = .gapWait → s.seq.state = .running →
      ((s.slot i).kind = .gap → exec .waitTimerExpiry s = .next { s with seq := gapReached s.seq i (s.slot i).time })
      ∧ ((s.slot i).kind = .stop →
        exec .waitTimerExpiry s = .next { s with seq := { restingAs s.seq .idle with current := i } })
      ∧ ((s.slot i).kind = .mark → s.seq.timer = .counting →
        exec .waitTimerExpiry s = .next { s with
          seq := { s.seq with current := i, activity := .markWait, wait := 0, chain := 0 } }))

/-- MINOR_CYCLE_TIMER_ZERO away from a MARK (R107, R116): a timer that does not count has no zero; a run-to-end window
with nothing in flight closes and the walk goes on, here to a GAP, which makes the timer LAPSED; in every other case the
timer becomes LAPSED and stays at zero. The kind and length of the closed record are the model's
choice (log 20). -/
def Obligations.MinorCycleTimerZero : Prop :=
  ∀ s : State, AtRest s →
    let i := nextSlot s.seq.current
    let w := s.arb.window
    let idleWindow := w.isOpen = true ∧ w.kind = .runToEnd ∧ w.inFlight = none
    (s.seq.timer ≠ .counting → exec .minorCycleTimerZero s = .next s)
    ∧ (s.seq.timer = .counting → s.seq.activity ≠ .markWait → ¬ idleWindow →
      exec .minorCycleTimerZero s = .next { s with seq := { s.seq with timer := .lapsed, timerLeft := 0 } })
    ∧ (s.seq.timer = .counting → s.seq.activity ≠ .markWait → idleWindow → s.seq.state = .running →
      (s.slot i).kind = .gap →
      exec .minorCycleTimerZero s = .next { s with
        seq := gapReached { s.seq with timer := .lapsed, timerLeft := 0 } i (s.slot i).time,
        arb := { s.arb with window := { isOpen := false, kind := .fixed, length := 0, elapsed := 0, stopping := false,
                                        inFlight := none } } })

/-- A MARK passes (R108 to R110), in each of its ways: at the zero of its cycle, in MARK_WAIT; reached behind a GAP with
the minor-cycle timer IDLE, DUE or LAPSED, the last with an overrun counted and raised; and reached behind a run-to-end
window that the zero closes, with the timer DUE and no overrun (R116). The walk goes on, here to a GAP: the timer is
loaded anew and the cycle number incremented, and every block takes the mark (MarkTaken): nodes age; the sights of the
sections and the loop are judged, with the cuts, derivations, overrides and events of BLIND; transient counts fall; the
deep-frost flag is set by a BLIND ambient; STARTs are posted, made mandatory or found blocked, with FLUSH_BLOCKED once;
the countdowns of DOWN lanes and SILENT nodes fall, and at their end the probe is posted and the countdown reloaded. The
order of the blocks at one mark is the model's choice (log 9), and so is the closed window's record (log 20). -/
def Obligations.CycleMark : Prop :=
  ∀ s : State, Settled s → RoomForReports s 18 → s.seq.state = .running →
    let passed (m : Nat) : Sequencer := { s.seq with
      timer := .counting, timerLeft := 100 * (s.slot m).time.toNat, cycle := s.seq.cycle + 1 }
    let m := nextSlot s.seq.current
    let w := s.arb.window
    (s.seq.timer = .counting → s.seq.activity = .markWait → PostsWait s → (s.slot m).kind = .gap →
      ∃ t, exec .minorCycleTimerZero s = .next t ∧ MarkTaken none s t ∧ t.arb.window = w
        ∧ t.seq = gapReached (passed s.seq.current) m (s.slot m).time)
    ∧ ((s.slot m).kind = .mark → (s.slot (nextSlot m)).kind = .gap →
      let i := nextSlot m
      (s.seq.activity = .gapWait → s.seq.timer = .idle ∨ s.seq.timer = .due → PostsWait s →
        ∃ t, exec .waitTimerExpiry s = .next t ∧ MarkTaken none s t ∧ t.arb.window = w
          ∧ t.seq = gapReached (passed m) i (s.slot i).time)
      ∧ (s.seq.activity = .gapWait → s.seq.timer = .lapsed → PostsWait s →
        ∃ t, exec .waitTimerExpiry s = .next t ∧ MarkTaken (some m) s t ∧ t.arb.window = w
          ∧ t.seq = gapReached { passed m with overruns := satSucc 65535 s.seq.overruns } i (s.slot i).time)
      ∧ (s.seq.timer = .counting → s.seq.activity ≠ .markWait → w.isOpen = true → w.kind = .runToEnd →
          w.inFlight = none →
        ∃ t, exec .minorCycleTimerZero s = .next t ∧ MarkTaken none s t ∧ t.arb.window = (windowShut s.arb).window
          ∧ t.seq = gapReached (passed m) i (s.slot i).time))

/-- LANE_PROBE_COUNTDOWN_END and NODE_PROBE_COUNTDOWN_END (R85, R89): the probe of a DOWN lane or a SILENT node joins the
PROBE queue, or is absorbed there, and the countdown is reloaded; an UP lane and an ACTIVE node have no countdown. That the row acts whatever the count is the model's choice
(log 8). -/
def Obligations.ProbeCountdownEnds : Prop :=
  ∀ s : State, AtRest s → PostsWait s →
    (∀ l, (s.lane l).health = .up → exec (.laneProbeCountdownEnd l) s = .next s)
    ∧ (∀ l, (s.lane l).health = .down → exec (.laneProbeCountdownEnd l) s = .next { s with
        xe := (s.setLane l { s.lane l with probeCountdown := s.cfg.linkSet.probeInterval }).xe,
        arb := { s.arb with
          probe := if .lane l ∈ s.arb.probe then s.arb.probe else s.arb.probe ++ [.lane l] } })
    ∧ (∀ a, (s.node a).health = .active → exec (.nodeProbeCountdownEnd a) s = .next s)
    ∧ (∀ a, 1 ≤ a → a ≤ 48 → (s.node a).health = .silent → exec (.nodeProbeCountdownEnd a) s = .next { s with
        nodes := s.nodes.setIfInBounds (a - 1) { s.node a with probeCountdown := s.cfg.linkSet.probeInterval },
        arb := { s.arb with
          probe := if .node a ∈ s.arb.probe then s.arb.probe else s.arb.probe ++ [.node a] } })

/-- The section timers. INTERVAL_TIMER_EXPIRY (R54 to R56): the balance falls by 1, to −3 at least, with the flow OPEN,
and otherwise rises by 1, to +7 at most; a rise refused at +7 counts an overdue and raises FLUSH_OVERDUE; the timer
restarts at the length that the deep-frost flag selects. FLUSH_TIMER_EXPIRY (R63): the pulse completes: the balance
falls by 1, to −3 at least, the flush timer stops, the flow becomes PARKED with E and V derived, and an END joins the
FLUSH queue unless one of the section is there. A stopped timer does not expire, and a timer that runs expires at its row whatever is left of it, which is the model's
choice (log 4). -/
def Obligations.SectionTimerExpiries : Prop :=
  ∀ (i n : Nat) (s : State), i < 8 →
    let x := s.sec i
    let isOverdue := x.flow ≠ .opened ∧ 7 ≤ x.balance
    (x.interval = none → AtRest s → exec (.intervalTimerExpiry i) s = .next s)
    ∧ (x.interval = some n → Settled s → RoomForReports s 1 → exec (.intervalTimerExpiry i) s = .next { s with
        sections := (s.sections.setIfInBounds i { x with
          balance := if x.flow = .opened then max (-3) (x.balance - 1) else min 7 (x.balance + 1),
          overdues := if isOverdue then satSucc 65535 x.overdues else x.overdues,
          interval := some (1000 * if s.loop.deepFrost then s.cfg.loop.deepInterval
            else s.cfg.loop.normalInterval) }),
        eu := if isOverdue then unitAfter s .flushOverdue else s.eu,
        lu := sendIfFree { s.lu with
          reports := if isOverdue then reportsWith s [eventNow s .flushOverdue (.sec i) 0] else s.lu.reports } })
    ∧ (x.flushTimer = none → AtRest s → exec (.flushTimerExpiry i) s = .next s)
    ∧ (x.flushTimer = some n → x.flow = .flushing → AtRest s → PostsWait s →
      ∃ t, exec (.flushTimerExpiry i) s = .next t
        ∧ t = { s with sections := t.sections, arb := { s.arb with
            frost := t.arb.frost,
            flush := if (i, .pulseEnd) ∈ s.arb.flush.map FlushRequest.key then s.arb.flush
              else s.arb.flush ++ [{ sec := i, kind := .pulseEnd, mandatory := false }] } }
        ∧ (∀ j, j ≠ i → t.sec j = s.sec j)
        ∧ t.sec i = { x with balance := max (-3) (x.balance - 1), flushTimer := none, flow := .parked,
                             fanCeiling := (t.sec i).fanCeiling, valveFloor := (t.sec i).valveFloor }
        ∧ SectionDerived t i ∧ s.arb.frost <+: t.arb.frost)

/-! ## What every step keeps -/

/-- R155: plant time. A power-on reset sets it to 0; a tick counts it up by 1 with 4,294,967,295 followed by 0, and with
it every section timer that runs by 1 ms (R54; that the tick takes no expiry is the model's reading, log 6); and every
other command, every request and the field and link resets among them, leaves it where it stands, but for one that
brings a power-on (the end of a RESET FULL's response, a RESET LINK while it waits), which sets it to 0. -/
def Obligations.PlantTimeMoves : Prop :=
  (∀ (rateHigh : Bool) (s t : State), exec (.powerOnReset rateHigh) s = .next t → t.plantTime = 0)
    ∧ (∀ s : State, AtRest s → exec .plantTimeTick s = .next { s with
        plantTime := BitVec.ofNat 32 ((s.plantTime.toNat + 1) % 4294967296),
        sections := s.sections.map fun x =>
          { x with interval := x.interval.map (· - 1), flushTimer := x.flushTimer.map (· - 1) } })
    ∧ (∀ (c : Instr) (s t : State), c ≠ .plantTimeTick → exec c s = .next t →
      t.plantTime = s.plantTime ∨ (t.Starting ∧ t.plantTime = 0))

/-- R186: outside STARTING each alarm line is asserted while a set flag is mapped to it and released while none is, and
while STARTING all three are asserted: so it is at reset, and every step keeps it so. -/
def Obligations.AlarmLinesFollow : Prop :=
  AlarmsFollow State.reset ∧ ∀ s t : State, AlarmsFollow s → step s = .next t → AlarmsFollow t

/-- Every step keeps the frost limits: E and V of every section as they derive (R29), C and L within 0 to 1000, and the
field side at its power-on values while STARTING. -/
def Obligations.FrostLimitsHold : Prop :=
  ∀ s t : State, LimitsDerived s → CeilingsBounded s → StartingQuiet s → step s = .next t →
    LimitsDerived t ∧ CeilingsBounded t ∧ StartingQuiet t

/-- Every step keeps the queues with no key twice, and PASS, the responses and the reports within their capacities (R122,
R162, R167); the flush balances within −3 to +7 (R55); and the keys of FROST, FLUSH and PROBE those of nodes, sections
and lanes of the part, as long as the tables, and an altered image that the medium returns, name no node beyond 48. With
both, FROST holds at most 48 entries, FLUSH 16 and PROBE 50. -/
def Obligations.QueuesAndBalancesBounded : Prop :=
  (∀ s t : State, QueuesBounded s → step s = .next t → QueuesBounded t)
    ∧ (∀ s t : State, BalancesBounded s → step s = .next t → BalancesBounded t)
    ∧ (∀ s t : State, KeysInRange s → TablesInRange s →
      (∀ image, (s.pending.head? = some (.startupReadEnd (.altered image))
          ∨ s.pending.head? = some (.storeWriteEnd (.altered image))) → RolesInRange image.tables) →
      step s = .next t → KeysInRange t ∧ TablesInRange t)
    ∧ (∀ s : State, QueuesBounded s → KeysInRange s →
      s.arb.frost.length ≤ 48 ∧ s.arb.flush.length ≤ 16 ∧ s.arb.probe.length ≤ 50)

/-- Every step keeps the sequencer at rest in IDLE and HALTED (R98), a STOPPING walk at an exchange or a window (R101), and
the chain counter at 63 or less (R106). -/
def Obligations.WalkAtRest : Prop :=
  ∀ s t : State, WalkRests s → step s = .next t → WalkRests t

/-- What every step keeps holds at reset. -/
def Obligations.InvariantsAtReset : Prop :=
  LimitsDerived State.reset ∧ CeilingsBounded State.reset ∧ StartingQuiet State.reset
    ∧ QueuesBounded State.reset ∧ BalancesBounded State.reset ∧ WalkRests State.reset
    ∧ KeysInRange State.reset ∧ TablesInRange State.reset ∧ StoreSound State.reset ∧ ReceiverSound State.reset
end

