-- ==== Sys2Proof/Laws/State.lean ====
section
/-! SUPPORT. What each update of the state leaves and writes: one lemma per field per update. -/

namespace Sys2Proof.Machine

section WithCfg
variable (s : State) (x : ConfigTables)
@[simp] theorem withCfg_cfg : (s.withCfg x).cfg = x := rfl
@[simp] theorem withCfg_demand : (s.withCfg x).demand = s.demand := rfl
@[simp] theorem withCfg_nodes : (s.withCfg x).nodes = s.nodes := rfl
@[simp] theorem withCfg_sections : (s.withCfg x).sections = s.sections := rfl
@[simp] theorem withCfg_loop : (s.withCfg x).loop = s.loop := rfl
@[simp] theorem withCfg_xe : (s.withCfg x).xe = s.xe := rfl
@[simp] theorem withCfg_seq : (s.withCfg x).seq = s.seq := rfl
@[simp] theorem withCfg_arb : (s.withCfg x).arb = s.arb := rfl
@[simp] theorem withCfg_lu : (s.withCfg x).lu = s.lu := rfl
@[simp] theorem withCfg_eu : (s.withCfg x).eu = s.eu := rfl
@[simp] theorem withCfg_store : (s.withCfg x).store = s.store := rfl
@[simp] theorem withCfg_mode : (s.withCfg x).mode = s.mode := rfl
@[simp] theorem withCfg_plantTime : (s.withCfg x).plantTime = s.plantTime := rfl
@[simp] theorem withCfg_ratePin : (s.withCfg x).ratePin = s.ratePin := rfl
@[simp] theorem withCfg_rate : (s.withCfg x).rate = s.rate := rfl
@[simp] theorem withCfg_pending : (s.withCfg x).pending = s.pending := rfl
end WithCfg

section WithDemand
variable (s : State) (x : Vector (Option Nat) 48)
@[simp] theorem withDemand_cfg : (s.withDemand x).cfg = s.cfg := rfl
@[simp] theorem withDemand_demand : (s.withDemand x).demand = x := rfl
@[simp] theorem withDemand_nodes : (s.withDemand x).nodes = s.nodes := rfl
@[simp] theorem withDemand_sections : (s.withDemand x).sections = s.sections := rfl
@[simp] theorem withDemand_loop : (s.withDemand x).loop = s.loop := rfl
@[simp] theorem withDemand_xe : (s.withDemand x).xe = s.xe := rfl
@[simp] theorem withDemand_seq : (s.withDemand x).seq = s.seq := rfl
@[simp] theorem withDemand_arb : (s.withDemand x).arb = s.arb := rfl
@[simp] theorem withDemand_lu : (s.withDemand x).lu = s.lu := rfl
@[simp] theorem withDemand_eu : (s.withDemand x).eu = s.eu := rfl
@[simp] theorem withDemand_store : (s.withDemand x).store = s.store := rfl
@[simp] theorem withDemand_mode : (s.withDemand x).mode = s.mode := rfl
@[simp] theorem withDemand_plantTime : (s.withDemand x).plantTime = s.plantTime := rfl
@[simp] theorem withDemand_ratePin : (s.withDemand x).ratePin = s.ratePin := rfl
@[simp] theorem withDemand_rate : (s.withDemand x).rate = s.rate := rfl
@[simp] theorem withDemand_pending : (s.withDemand x).pending = s.pending := rfl
end WithDemand

section WithNodes
variable (s : State) (x : Vector NodeState 48)
@[simp] theorem withNodes_cfg : (s.withNodes x).cfg = s.cfg := rfl
@[simp] theorem withNodes_demand : (s.withNodes x).demand = s.demand := rfl
@[simp] theorem withNodes_nodes : (s.withNodes x).nodes = x := rfl
@[simp] theorem withNodes_sections : (s.withNodes x).sections = s.sections := rfl
@[simp] theorem withNodes_loop : (s.withNodes x).loop = s.loop := rfl
@[simp] theorem withNodes_xe : (s.withNodes x).xe = s.xe := rfl
@[simp] theorem withNodes_seq : (s.withNodes x).seq = s.seq := rfl
@[simp] theorem withNodes_arb : (s.withNodes x).arb = s.arb := rfl
@[simp] theorem withNodes_lu : (s.withNodes x).lu = s.lu := rfl
@[simp] theorem withNodes_eu : (s.withNodes x).eu = s.eu := rfl
@[simp] theorem withNodes_store : (s.withNodes x).store = s.store := rfl
@[simp] theorem withNodes_mode : (s.withNodes x).mode = s.mode := rfl
@[simp] theorem withNodes_plantTime : (s.withNodes x).plantTime = s.plantTime := rfl
@[simp] theorem withNodes_ratePin : (s.withNodes x).ratePin = s.ratePin := rfl
@[simp] theorem withNodes_rate : (s.withNodes x).rate = s.rate := rfl
@[simp] theorem withNodes_pending : (s.withNodes x).pending = s.pending := rfl
end WithNodes

section WithSections
variable (s : State) (x : Vector SectionState 8)
@[simp] theorem withSections_cfg : (s.withSections x).cfg = s.cfg := rfl
@[simp] theorem withSections_demand : (s.withSections x).demand = s.demand := rfl
@[simp] theorem withSections_nodes : (s.withSections x).nodes = s.nodes := rfl
@[simp] theorem withSections_sections : (s.withSections x).sections = x := rfl
@[simp] theorem withSections_loop : (s.withSections x).loop = s.loop := rfl
@[simp] theorem withSections_xe : (s.withSections x).xe = s.xe := rfl
@[simp] theorem withSections_seq : (s.withSections x).seq = s.seq := rfl
@[simp] theorem withSections_arb : (s.withSections x).arb = s.arb := rfl
@[simp] theorem withSections_lu : (s.withSections x).lu = s.lu := rfl
@[simp] theorem withSections_eu : (s.withSections x).eu = s.eu := rfl
@[simp] theorem withSections_store : (s.withSections x).store = s.store := rfl
@[simp] theorem withSections_mode : (s.withSections x).mode = s.mode := rfl
@[simp] theorem withSections_plantTime : (s.withSections x).plantTime = s.plantTime := rfl
@[simp] theorem withSections_ratePin : (s.withSections x).ratePin = s.ratePin := rfl
@[simp] theorem withSections_rate : (s.withSections x).rate = s.rate := rfl
@[simp] theorem withSections_pending : (s.withSections x).pending = s.pending := rfl
end WithSections

section WithLoop
variable (s : State) (x : LoopState)
@[simp] theorem withLoop_cfg : (s.withLoop x).cfg = s.cfg := rfl
@[simp] theorem withLoop_demand : (s.withLoop x).demand = s.demand := rfl
@[simp] theorem withLoop_nodes : (s.withLoop x).nodes = s.nodes := rfl
@[simp] theorem withLoop_sections : (s.withLoop x).sections = s.sections := rfl
@[simp] theorem withLoop_loop : (s.withLoop x).loop = x := rfl
@[simp] theorem withLoop_xe : (s.withLoop x).xe = s.xe := rfl
@[simp] theorem withLoop_seq : (s.withLoop x).seq = s.seq := rfl
@[simp] theorem withLoop_arb : (s.withLoop x).arb = s.arb := rfl
@[simp] theorem withLoop_lu : (s.withLoop x).lu = s.lu := rfl
@[simp] theorem withLoop_eu : (s.withLoop x).eu = s.eu := rfl
@[simp] theorem withLoop_store : (s.withLoop x).store = s.store := rfl
@[simp] theorem withLoop_mode : (s.withLoop x).mode = s.mode := rfl
@[simp] theorem withLoop_plantTime : (s.withLoop x).plantTime = s.plantTime := rfl
@[simp] theorem withLoop_ratePin : (s.withLoop x).ratePin = s.ratePin := rfl
@[simp] theorem withLoop_rate : (s.withLoop x).rate = s.rate := rfl
@[simp] theorem withLoop_pending : (s.withLoop x).pending = s.pending := rfl
end WithLoop

section WithXe
variable (s : State) (x : ExchangeEngine)
@[simp] theorem withXe_cfg : (s.withXe x).cfg = s.cfg := rfl
@[simp] theorem withXe_demand : (s.withXe x).demand = s.demand := rfl
@[simp] theorem withXe_nodes : (s.withXe x).nodes = s.nodes := rfl
@[simp] theorem withXe_sections : (s.withXe x).sections = s.sections := rfl
@[simp] theorem withXe_loop : (s.withXe x).loop = s.loop := rfl
@[simp] theorem withXe_xe : (s.withXe x).xe = x := rfl
@[simp] theorem withXe_seq : (s.withXe x).seq = s.seq := rfl
@[simp] theorem withXe_arb : (s.withXe x).arb = s.arb := rfl
@[simp] theorem withXe_lu : (s.withXe x).lu = s.lu := rfl
@[simp] theorem withXe_eu : (s.withXe x).eu = s.eu := rfl
@[simp] theorem withXe_store : (s.withXe x).store = s.store := rfl
@[simp] theorem withXe_mode : (s.withXe x).mode = s.mode := rfl
@[simp] theorem withXe_plantTime : (s.withXe x).plantTime = s.plantTime := rfl
@[simp] theorem withXe_ratePin : (s.withXe x).ratePin = s.ratePin := rfl
@[simp] theorem withXe_rate : (s.withXe x).rate = s.rate := rfl
@[simp] theorem withXe_pending : (s.withXe x).pending = s.pending := rfl
end WithXe

section WithSeq
variable (s : State) (x : Sequencer)
@[simp] theorem withSeq_cfg : (s.withSeq x).cfg = s.cfg := rfl
@[simp] theorem withSeq_demand : (s.withSeq x).demand = s.demand := rfl
@[simp] theorem withSeq_nodes : (s.withSeq x).nodes = s.nodes := rfl
@[simp] theorem withSeq_sections : (s.withSeq x).sections = s.sections := rfl
@[simp] theorem withSeq_loop : (s.withSeq x).loop = s.loop := rfl
@[simp] theorem withSeq_xe : (s.withSeq x).xe = s.xe := rfl
@[simp] theorem withSeq_seq : (s.withSeq x).seq = x := rfl
@[simp] theorem withSeq_arb : (s.withSeq x).arb = s.arb := rfl
@[simp] theorem withSeq_lu : (s.withSeq x).lu = s.lu := rfl
@[simp] theorem withSeq_eu : (s.withSeq x).eu = s.eu := rfl
@[simp] theorem withSeq_store : (s.withSeq x).store = s.store := rfl
@[simp] theorem withSeq_mode : (s.withSeq x).mode = s.mode := rfl
@[simp] theorem withSeq_plantTime : (s.withSeq x).plantTime = s.plantTime := rfl
@[simp] theorem withSeq_ratePin : (s.withSeq x).ratePin = s.ratePin := rfl
@[simp] theorem withSeq_rate : (s.withSeq x).rate = s.rate := rfl
@[simp] theorem withSeq_pending : (s.withSeq x).pending = s.pending := rfl
end WithSeq

section WithArb
variable (s : State) (x : Arbiter)
@[simp] theorem withArb_cfg : (s.withArb x).cfg = s.cfg := rfl
@[simp] theorem withArb_demand : (s.withArb x).demand = s.demand := rfl
@[simp] theorem withArb_nodes : (s.withArb x).nodes = s.nodes := rfl
@[simp] theorem withArb_sections : (s.withArb x).sections = s.sections := rfl
@[simp] theorem withArb_loop : (s.withArb x).loop = s.loop := rfl
@[simp] theorem withArb_xe : (s.withArb x).xe = s.xe := rfl
@[simp] theorem withArb_seq : (s.withArb x).seq = s.seq := rfl
@[simp] theorem withArb_arb : (s.withArb x).arb = x := rfl
@[simp] theorem withArb_lu : (s.withArb x).lu = s.lu := rfl
@[simp] theorem withArb_eu : (s.withArb x).eu = s.eu := rfl
@[simp] theorem withArb_store : (s.withArb x).store = s.store := rfl
@[simp] theorem withArb_mode : (s.withArb x).mode = s.mode := rfl
@[simp] theorem withArb_plantTime : (s.withArb x).plantTime = s.plantTime := rfl
@[simp] theorem withArb_ratePin : (s.withArb x).ratePin = s.ratePin := rfl
@[simp] theorem withArb_rate : (s.withArb x).rate = s.rate := rfl
@[simp] theorem withArb_pending : (s.withArb x).pending = s.pending := rfl
end WithArb

section WithLu
variable (s : State) (x : LinkUnit)
@[simp] theorem withLu_cfg : (s.withLu x).cfg = s.cfg := rfl
@[simp] theorem withLu_demand : (s.withLu x).demand = s.demand := rfl
@[simp] theorem withLu_nodes : (s.withLu x).nodes = s.nodes := rfl
@[simp] theorem withLu_sections : (s.withLu x).sections = s.sections := rfl
@[simp] theorem withLu_loop : (s.withLu x).loop = s.loop := rfl
@[simp] theorem withLu_xe : (s.withLu x).xe = s.xe := rfl
@[simp] theorem withLu_seq : (s.withLu x).seq = s.seq := rfl
@[simp] theorem withLu_arb : (s.withLu x).arb = s.arb := rfl
@[simp] theorem withLu_lu : (s.withLu x).lu = x := rfl
@[simp] theorem withLu_eu : (s.withLu x).eu = s.eu := rfl
@[simp] theorem withLu_store : (s.withLu x).store = s.store := rfl
@[simp] theorem withLu_mode : (s.withLu x).mode = s.mode := rfl
@[simp] theorem withLu_plantTime : (s.withLu x).plantTime = s.plantTime := rfl
@[simp] theorem withLu_ratePin : (s.withLu x).ratePin = s.ratePin := rfl
@[simp] theorem withLu_rate : (s.withLu x).rate = s.rate := rfl
@[simp] theorem withLu_pending : (s.withLu x).pending = s.pending := rfl
end WithLu

section WithEu
variable (s : State) (x : EventUnit)
@[simp] theorem withEu_cfg : (s.withEu x).cfg = s.cfg := rfl
@[simp] theorem withEu_demand : (s.withEu x).demand = s.demand := rfl
@[simp] theorem withEu_nodes : (s.withEu x).nodes = s.nodes := rfl
@[simp] theorem withEu_sections : (s.withEu x).sections = s.sections := rfl
@[simp] theorem withEu_loop : (s.withEu x).loop = s.loop := rfl
@[simp] theorem withEu_xe : (s.withEu x).xe = s.xe := rfl
@[simp] theorem withEu_seq : (s.withEu x).seq = s.seq := rfl
@[simp] theorem withEu_arb : (s.withEu x).arb = s.arb := rfl
@[simp] theorem withEu_lu : (s.withEu x).lu = s.lu := rfl
@[simp] theorem withEu_eu : (s.withEu x).eu = x := rfl
@[simp] theorem withEu_store : (s.withEu x).store = s.store := rfl
@[simp] theorem withEu_mode : (s.withEu x).mode = s.mode := rfl
@[simp] theorem withEu_plantTime : (s.withEu x).plantTime = s.plantTime := rfl
@[simp] theorem withEu_ratePin : (s.withEu x).ratePin = s.ratePin := rfl
@[simp] theorem withEu_rate : (s.withEu x).rate = s.rate := rfl
@[simp] theorem withEu_pending : (s.withEu x).pending = s.pending := rfl
end WithEu

section WithStore
variable (s : State) (x : Store)
@[simp] theorem withStore_cfg : (s.withStore x).cfg = s.cfg := rfl
@[simp] theorem withStore_demand : (s.withStore x).demand = s.demand := rfl
@[simp] theorem withStore_nodes : (s.withStore x).nodes = s.nodes := rfl
@[simp] theorem withStore_sections : (s.withStore x).sections = s.sections := rfl
@[simp] theorem withStore_loop : (s.withStore x).loop = s.loop := rfl
@[simp] theorem withStore_xe : (s.withStore x).xe = s.xe := rfl
@[simp] theorem withStore_seq : (s.withStore x).seq = s.seq := rfl
@[simp] theorem withStore_arb : (s.withStore x).arb = s.arb := rfl
@[simp] theorem withStore_lu : (s.withStore x).lu = s.lu := rfl
@[simp] theorem withStore_eu : (s.withStore x).eu = s.eu := rfl
@[simp] theorem withStore_store : (s.withStore x).store = x := rfl
@[simp] theorem withStore_mode : (s.withStore x).mode = s.mode := rfl
@[simp] theorem withStore_plantTime : (s.withStore x).plantTime = s.plantTime := rfl
@[simp] theorem withStore_ratePin : (s.withStore x).ratePin = s.ratePin := rfl
@[simp] theorem withStore_rate : (s.withStore x).rate = s.rate := rfl
@[simp] theorem withStore_pending : (s.withStore x).pending = s.pending := rfl
end WithStore

section WithMode
variable (s : State) (x : Mode)
@[simp] theorem withMode_cfg : (s.withMode x).cfg = s.cfg := rfl
@[simp] theorem withMode_demand : (s.withMode x).demand = s.demand := rfl
@[simp] theorem withMode_nodes : (s.withMode x).nodes = s.nodes := rfl
@[simp] theorem withMode_sections : (s.withMode x).sections = s.sections := rfl
@[simp] theorem withMode_loop : (s.withMode x).loop = s.loop := rfl
@[simp] theorem withMode_xe : (s.withMode x).xe = s.xe := rfl
@[simp] theorem withMode_seq : (s.withMode x).seq = s.seq := rfl
@[simp] theorem withMode_arb : (s.withMode x).arb = s.arb := rfl
@[simp] theorem withMode_lu : (s.withMode x).lu = s.lu := rfl
@[simp] theorem withMode_eu : (s.withMode x).eu = s.eu := rfl
@[simp] theorem withMode_store : (s.withMode x).store = s.store := rfl
@[simp] theorem withMode_mode : (s.withMode x).mode = x := rfl
@[simp] theorem withMode_plantTime : (s.withMode x).plantTime = s.plantTime := rfl
@[simp] theorem withMode_ratePin : (s.withMode x).ratePin = s.ratePin := rfl
@[simp] theorem withMode_rate : (s.withMode x).rate = s.rate := rfl
@[simp] theorem withMode_pending : (s.withMode x).pending = s.pending := rfl
end WithMode

section WithPlantTime
variable (s : State) (x : BitVec 32)
@[simp] theorem withPlantTime_cfg : (s.withPlantTime x).cfg = s.cfg := rfl
@[simp] theorem withPlantTime_demand : (s.withPlantTime x).demand = s.demand := rfl
@[simp] theorem withPlantTime_nodes : (s.withPlantTime x).nodes = s.nodes := rfl
@[simp] theorem withPlantTime_sections : (s.withPlantTime x).sections = s.sections := rfl
@[simp] theorem withPlantTime_loop : (s.withPlantTime x).loop = s.loop := rfl
@[simp] theorem withPlantTime_xe : (s.withPlantTime x).xe = s.xe := rfl
@[simp] theorem withPlantTime_seq : (s.withPlantTime x).seq = s.seq := rfl
@[simp] theorem withPlantTime_arb : (s.withPlantTime x).arb = s.arb := rfl
@[simp] theorem withPlantTime_lu : (s.withPlantTime x).lu = s.lu := rfl
@[simp] theorem withPlantTime_eu : (s.withPlantTime x).eu = s.eu := rfl
@[simp] theorem withPlantTime_store : (s.withPlantTime x).store = s.store := rfl
@[simp] theorem withPlantTime_mode : (s.withPlantTime x).mode = s.mode := rfl
@[simp] theorem withPlantTime_plantTime : (s.withPlantTime x).plantTime = x := rfl
@[simp] theorem withPlantTime_ratePin : (s.withPlantTime x).ratePin = s.ratePin := rfl
@[simp] theorem withPlantTime_rate : (s.withPlantTime x).rate = s.rate := rfl
@[simp] theorem withPlantTime_pending : (s.withPlantTime x).pending = s.pending := rfl
end WithPlantTime

section WithPending
variable (s : State) (x : List Instr)
@[simp] theorem withPending_cfg : (s.withPending x).cfg = s.cfg := rfl
@[simp] theorem withPending_demand : (s.withPending x).demand = s.demand := rfl
@[simp] theorem withPending_nodes : (s.withPending x).nodes = s.nodes := rfl
@[simp] theorem withPending_sections : (s.withPending x).sections = s.sections := rfl
@[simp] theorem withPending_loop : (s.withPending x).loop = s.loop := rfl
@[simp] theorem withPending_xe : (s.withPending x).xe = s.xe := rfl
@[simp] theorem withPending_seq : (s.withPending x).seq = s.seq := rfl
@[simp] theorem withPending_arb : (s.withPending x).arb = s.arb := rfl
@[simp] theorem withPending_lu : (s.withPending x).lu = s.lu := rfl
@[simp] theorem withPending_eu : (s.withPending x).eu = s.eu := rfl
@[simp] theorem withPending_store : (s.withPending x).store = s.store := rfl
@[simp] theorem withPending_mode : (s.withPending x).mode = s.mode := rfl
@[simp] theorem withPending_plantTime : (s.withPending x).plantTime = s.plantTime := rfl
@[simp] theorem withPending_ratePin : (s.withPending x).ratePin = s.ratePin := rfl
@[simp] theorem withPending_rate : (s.withPending x).rate = s.rate := rfl
@[simp] theorem withPending_pending : (s.withPending x).pending = x := rfl
end WithPending

end Sys2Proof.Machine
end

