-- ==== Sys2Proof/Laws/Records.lean ====
section
/-! SUPPORT. Reading a record after one has been written: the record written reads back, every other reads as before. -/

namespace Sys2Proof.Machine

/-! ## Sections -/

theorem sec_setSec (s : State) (i j : Nat) (x : SectionState) :
    (s.setSec i x).sec j = if i = j ∧ i < 8 then x else s.sec j := by
  simp only [State.sec, State.setSec, withSections_sections, Vector.getElem?_setIfInBounds]
  by_cases h : i = j
  · subst h
    by_cases hi : i < 8 <;> simp [hi]
  · simp [h]

@[simp] theorem sec_setSec_same (s : State) {i : Nat} (x : SectionState) (h : i < 8) : (s.setSec i x).sec i = x := by
  simp [sec_setSec, h]

theorem sec_setSec_other (s : State) {i j : Nat} (x : SectionState) (h : i ≠ j) : (s.setSec i x).sec j = s.sec j := by
  simp [sec_setSec, h]

/-- A section number above 7 names no record, and reads as at power-on. -/
theorem sec_outside (s : State) {i : Nat} (h : 8 ≤ i) : s.sec i = .powerOn := by
  simp [State.sec, Vector.getElem?_eq_none h]

section SetSec
variable (s : State) (i : Nat) (x : SectionState)
@[simp] theorem setSec_cfg : (s.setSec i x).cfg = s.cfg := rfl
@[simp] theorem setSec_demand : (s.setSec i x).demand = s.demand := rfl
@[simp] theorem setSec_nodes : (s.setSec i x).nodes = s.nodes := rfl
@[simp] theorem setSec_loop : (s.setSec i x).loop = s.loop := rfl
@[simp] theorem setSec_xe : (s.setSec i x).xe = s.xe := rfl
@[simp] theorem setSec_seq : (s.setSec i x).seq = s.seq := rfl
@[simp] theorem setSec_arb : (s.setSec i x).arb = s.arb := rfl
@[simp] theorem setSec_lu : (s.setSec i x).lu = s.lu := rfl
@[simp] theorem setSec_eu : (s.setSec i x).eu = s.eu := rfl
@[simp] theorem setSec_store : (s.setSec i x).store = s.store := rfl
@[simp] theorem setSec_mode : (s.setSec i x).mode = s.mode := rfl
@[simp] theorem setSec_plantTime : (s.setSec i x).plantTime = s.plantTime := rfl
@[simp] theorem setSec_ratePin : (s.setSec i x).ratePin = s.ratePin := rfl
@[simp] theorem setSec_rate : (s.setSec i x).rate = s.rate := rfl
@[simp] theorem setSec_pending : (s.setSec i x).pending = s.pending := rfl
end SetSec

/-! ## Nodes -/

theorem node_setNode (s : State) (a b : Nat) (n : NodeState) :
    (s.setNode a n).node b = if a = b ∧ 1 ≤ a ∧ a ≤ 48 then n else s.node b := by
  simp only [State.node, State.setNode]
  by_cases ha : a = 0
  · subst ha; simp
  · by_cases hb : b = 0
    · subst hb; simp [ha]
    · simp only [ha, hb, if_false, withNodes_nodes, Vector.getElem?_setIfInBounds]
      by_cases h : a = b
      · subst h
        by_cases hi : a - 1 < 48
        · have : a ≤ 48 := by omega
          simp [hi, this]; omega
        · have : ¬ a ≤ 48 := by omega
          simp [hi, this]
      · have : ¬ a - 1 = b - 1 := by omega
        simp [h, this]

@[simp] theorem node_setNode_same (s : State) {a : Nat} (n : NodeState) (h1 : 1 ≤ a) (h48 : a ≤ 48) :
    (s.setNode a n).node a = n := by
  simp [node_setNode, h1, h48]

theorem node_setNode_other (s : State) {a b : Nat} (n : NodeState) (h : a ≠ b) :
    (s.setNode a n).node b = s.node b := by
  simp [node_setNode, h]

section SetNode
variable (s : State) (a : Nat) (n : NodeState)
@[simp] theorem setNode_cfg : (s.setNode a n).cfg = s.cfg := by unfold State.setNode; split <;> rfl
@[simp] theorem setNode_demand : (s.setNode a n).demand = s.demand := by unfold State.setNode; split <;> rfl
@[simp] theorem setNode_sections : (s.setNode a n).sections = s.sections := by unfold State.setNode; split <;> rfl
@[simp] theorem setNode_loop : (s.setNode a n).loop = s.loop := by unfold State.setNode; split <;> rfl
@[simp] theorem setNode_xe : (s.setNode a n).xe = s.xe := by unfold State.setNode; split <;> rfl
@[simp] theorem setNode_seq : (s.setNode a n).seq = s.seq := by unfold State.setNode; split <;> rfl
@[simp] theorem setNode_arb : (s.setNode a n).arb = s.arb := by unfold State.setNode; split <;> rfl
@[simp] theorem setNode_lu : (s.setNode a n).lu = s.lu := by unfold State.setNode; split <;> rfl
@[simp] theorem setNode_eu : (s.setNode a n).eu = s.eu := by unfold State.setNode; split <;> rfl
@[simp] theorem setNode_store : (s.setNode a n).store = s.store := by unfold State.setNode; split <;> rfl
@[simp] theorem setNode_mode : (s.setNode a n).mode = s.mode := by unfold State.setNode; split <;> rfl
@[simp] theorem setNode_plantTime : (s.setNode a n).plantTime = s.plantTime := by unfold State.setNode; split <;> rfl
@[simp] theorem setNode_ratePin : (s.setNode a n).ratePin = s.ratePin := by unfold State.setNode; split <;> rfl
@[simp] theorem setNode_rate : (s.setNode a n).rate = s.rate := by unfold State.setNode; split <;> rfl
@[simp] theorem setNode_pending : (s.setNode a n).pending = s.pending := by unfold State.setNode; split <;> rfl
end SetNode

/-! ## Demand and hold entries -/

theorem demandOf_setDemand (s : State) (a b : Nat) (d : Option Nat) :
    (s.setDemand a d).demandOf b = if a = b ∧ 1 ≤ a ∧ a ≤ 48 then d else s.demandOf b := by
  simp only [State.demandOf, State.setDemand]
  by_cases ha : a = 0
  · subst ha; simp
  · by_cases hb : b = 0
    · subst hb; simp [ha]
    · simp only [ha, hb, if_false, withDemand_demand, Vector.getElem?_setIfInBounds]
      by_cases h : a = b
      · subst h
        by_cases hi : a - 1 < 48
        · have : a ≤ 48 := by omega
          simp [hi, this]; omega
        · have : ¬ a ≤ 48 := by omega
          simp [hi, this]
      · have : ¬ a - 1 = b - 1 := by omega
        simp [h, this]

theorem holdOf_setHold (s : State) (a b h : Nat) :
    (s.setHold a h).holdOf b = if a = b ∧ 1 ≤ a ∧ a ≤ 48 then h else s.holdOf b := by
  simp only [State.holdOf, State.setHold]
  by_cases ha : a = 0
  · subst ha; simp
  · by_cases hb : b = 0
    · subst hb; simp [ha]
    · simp only [ha, hb, if_false, withCfg_cfg, Vector.getElem?_setIfInBounds]
      by_cases hab : a = b
      · subst hab
        by_cases hi : a - 1 < 48
        · have : a ≤ 48 := by omega
          simp [hi, this]; omega
        · have : ¬ a ≤ 48 := by omega
          simp [hi, this]
      · have : ¬ a - 1 = b - 1 := by omega
        simp [hab, this]

/-! ## Lanes -/

theorem lane_setLane (s : State) (l m : Lane) (x : LaneState) :
    (s.setLane l x).lane m = if l = m then x else s.lane m := by
  cases l <;> cases m <;> simp [State.lane, State.setLane]

@[simp] theorem lane_setLane_same (s : State) (l : Lane) (x : LaneState) : (s.setLane l x).lane l = x := by
  simp [lane_setLane]

section SetLane
variable (s : State) (l : Lane) (x : LaneState)
@[simp] theorem setLane_cfg : (s.setLane l x).cfg = s.cfg := by cases l <;> rfl
@[simp] theorem setLane_demand : (s.setLane l x).demand = s.demand := by cases l <;> rfl
@[simp] theorem setLane_nodes : (s.setLane l x).nodes = s.nodes := by cases l <;> rfl
@[simp] theorem setLane_sections : (s.setLane l x).sections = s.sections := by cases l <;> rfl
@[simp] theorem setLane_loop : (s.setLane l x).loop = s.loop := by cases l <;> rfl
@[simp] theorem setLane_seq : (s.setLane l x).seq = s.seq := by cases l <;> rfl
@[simp] theorem setLane_arb : (s.setLane l x).arb = s.arb := by cases l <;> rfl
@[simp] theorem setLane_lu : (s.setLane l x).lu = s.lu := by cases l <;> rfl
@[simp] theorem setLane_eu : (s.setLane l x).eu = s.eu := by cases l <;> rfl
@[simp] theorem setLane_store : (s.setLane l x).store = s.store := by cases l <;> rfl
@[simp] theorem setLane_mode : (s.setLane l x).mode = s.mode := by cases l <;> rfl
@[simp] theorem setLane_plantTime : (s.setLane l x).plantTime = s.plantTime := by cases l <;> rfl
@[simp] theorem setLane_ratePin : (s.setLane l x).ratePin = s.ratePin := by cases l <;> rfl
@[simp] theorem setLane_rate : (s.setLane l x).rate = s.rate := by cases l <;> rfl
@[simp] theorem setLane_pending : (s.setLane l x).pending = s.pending := by cases l <;> rfl
@[simp] theorem setLane_lastGood : (s.setLane l x).xe.lastGood = s.xe.lastGood := by cases l <;> rfl
@[simp] theorem setLane_flight : (s.setLane l x).xe.flight = s.xe.flight := by cases l <;> rfl
@[simp] theorem setLane_lastResult : (s.setLane l x).xe.lastResult = s.xe.lastResult := by cases l <;> rfl
end SetLane

/-! ## One kind of record after another has been written -/

@[simp] theorem lane_setNode (s : State) (a : Nat) (n : NodeState) (l : Lane) : (s.setNode a n).lane l = s.lane l := by
  cases l <;> simp [State.lane]
@[simp] theorem sec_setNode (s : State) (a : Nat) (n : NodeState) (i : Nat) : (s.setNode a n).sec i = s.sec i := by
  simp [State.sec]
@[simp] theorem node_setLane (s : State) (l : Lane) (x : LaneState) (a : Nat) : (s.setLane l x).node a = s.node a := by
  simp [State.node]
@[simp] theorem sec_setLane (s : State) (l : Lane) (x : LaneState) (i : Nat) : (s.setLane l x).sec i = s.sec i := by
  simp [State.sec]
@[simp] theorem node_setSec (s : State) (i : Nat) (x : SectionState) (a : Nat) : (s.setSec i x).node a = s.node a := by
  simp [State.node]
@[simp] theorem lane_setSec (s : State) (i : Nat) (x : SectionState) (l : Lane) : (s.setSec i x).lane l = s.lane l := by
  cases l <;> simp [State.lane]

/-! ## Going through the sections and the nodes -/

/-- A property that each application keeps is kept by a rule applied to a list of records in order. -/
theorem foldl_keeps {α : Type} {P : State → Prop} (f : α → State → State) (h : ∀ i s, P s → P (f i s)) :
    ∀ (xs : List α) (s : State), P s → P (xs.foldl (fun t i => f i t) s)
  | [], _, hs => hs
  | x :: xs, s, hs => foldl_keeps f h xs (f x s) (h x s hs)

theorem forSections_keeps {P : State → Prop} {f : Nat → State → State} (h : ∀ i s, P s → P (f i s)) {s : State}
    (hs : P s) : P (forSections f s) := foldl_keeps f h _ _ hs

theorem forNodes_keeps {P : State → Prop} {f : Nat → State → State} (h : ∀ i s, P s → P (f i s)) {s : State}
    (hs : P s) : P (forNodes f s) := foldl_keeps f h _ _ hs

end Sys2Proof.Machine
end

