-- ==== Sys2Proof/Laws/Settling.lean ====
section
/-! SUPPORT. What the walk and the arbiter's decisions can change within a command, said once: `Settling s t` holds of
every move, so of `settle`. The configuration, the demands, the store, the mode and the plant time stand; the Link Unit
but for its reports; of a lane only its probe countdown, of a node only its age and probe countdown, and of a section
only its frost state and its blocked reported mark may differ. -/

namespace Sys2Proof.Machine

/-- What a move within a command leaves. -/
structure Settling (s t : State) : Prop where
  cfg       : t.cfg = s.cfg
  demand    : t.demand = s.demand
  store     : t.store = s.store
  mode      : t.mode = s.mode
  plantTime : t.plantTime = s.plantTime
  ratePin   : t.ratePin = s.ratePin
  rate      : t.rate = s.rate
  pending   : t.pending = s.pending
  lu        : t.lu = { s.lu with reports := t.lu.reports, losses := t.lu.losses }
  lane      : ∀ l, t.lane l = { s.lane l with probeCountdown := (t.lane l).probeCountdown }
  lastGood  : t.xe.lastGood = s.xe.lastGood
  node      : ∀ a, t.node a = { s.node a with age := (t.node a).age, probeCountdown := (t.node a).probeCountdown }
  sec       : ∀ i, t.sec i = { s.sec i with
                ceiling := (t.sec i).ceiling, fanCeiling := (t.sec i).fanCeiling, valveFloor := (t.sec i).valveFloor,
                sight := (t.sec i).sight, transient := (t.sec i).transient, clamps := (t.sec i).clamps,
                blocked := (t.sec i).blocked }
  flag      : ∀ c, s.flag c = true → t.flag c = true

theorem Settling.refl (s : State) : Settling s s := by constructor <;> intros <;> first | rfl | assumption

theorem Settling.trans {s t u : State} (h : Settling s t) (k : Settling t u) : Settling s u where
  cfg := k.cfg.trans h.cfg
  demand := k.demand.trans h.demand
  store := k.store.trans h.store
  mode := k.mode.trans h.mode
  plantTime := k.plantTime.trans h.plantTime
  ratePin := k.ratePin.trans h.ratePin
  rate := k.rate.trans h.rate
  pending := k.pending.trans h.pending
  lu := by rw [k.lu, h.lu]
  lane l := by rw [k.lane l, h.lane l]
  lastGood := k.lastGood.trans h.lastGood
  node a := by rw [k.node a, h.node a]
  sec i := by rw [k.sec i, h.sec i]
  flag c hc := k.flag c (h.flag c hc)

/-! ## The updates a move is made of -/

section Updates
variable (s : State)

theorem settling_withSeq (x : Sequencer) : Settling s (s.withSeq x) := by
  constructor <;> intros <;> first | rfl | assumption
theorem settling_withArb (x : Arbiter) : Settling s (s.withArb x) := by
  constructor <;> intros <;> first | rfl | assumption

/-- The lines are driven, and no flag is cleared. -/
theorem settling_withEu (x : EventUnit) (h : ∀ n, s.eu.flags.getLsbD n = true → x.flags.getLsbD n = true) :
    Settling s (s.withEu x) := by
  constructor <;> intros <;> first | rfl | exact h _ ‹_›

theorem settling_withLoop (x : LoopState) : Settling s (s.withLoop x) := by
  constructor <;> intros <;> first | rfl | assumption

theorem settling_flight (f : Option Flight) (r : Option ExchangeResult) :
    Settling s (s.withXe { s.xe with flight := f, lastResult := r }) := by
  constructor <;> intros <;> first | rfl | assumption

theorem settling_reports (r : List Report) (n : Nat) :
    Settling s (s.withLu { s.lu with reports := r, losses := n }) := by
  constructor <;> intros <;> first | rfl | assumption

/-- A section's frost state and blocked reported mark are written. -/
theorem settling_setSec (i : Nat) (x : SectionState)
    (h : x = { s.sec i with ceiling := x.ceiling, fanCeiling := x.fanCeiling, valveFloor := x.valveFloor,
                            sight := x.sight, transient := x.transient, clamps := x.clamps, blocked := x.blocked }) :
    Settling s (s.setSec i x) := by
  constructor <;> intros <;> try (first | rfl | assumption)
  rename_i j
  rw [sec_setSec]
  split
  · next hj => rw [← hj.1]; exact h
  · rfl

/-- A node's age and probe countdown are written. -/
theorem settling_setNode (a : Nat) (n : NodeState)
    (h : n = { s.node a with age := n.age, probeCountdown := n.probeCountdown }) : Settling s (s.setNode a n) where
  cfg := setNode_cfg ..
  demand := setNode_demand ..
  store := setNode_store ..
  mode := setNode_mode ..
  plantTime := setNode_plantTime ..
  ratePin := setNode_ratePin ..
  rate := setNode_rate ..
  pending := setNode_pending ..
  lu := by rw [setNode_lu]
  lane l := by rw [lane_setNode]
  lastGood := by rw [setNode_xe]
  node b' := by
    rw [node_setNode]
    split
    · next hb => rw [← hb.1]; exact h
    · rfl
  sec i := by rw [sec_setNode]
  flag c h := by simpa [State.flag] using h

/-- A lane's probe countdown is written. -/
theorem settling_setLane (l : Lane) (n : Nat) :
    Settling s (s.setLane l { s.lane l with probeCountdown := n }) where
  cfg := setLane_cfg ..
  demand := setLane_demand ..
  store := setLane_store ..
  mode := setLane_mode ..
  plantTime := setLane_plantTime ..
  ratePin := setLane_ratePin ..
  rate := setLane_rate ..
  pending := setLane_pending ..
  lu := by rw [setLane_lu]
  lane m := by
    rw [lane_setLane]
    split
    · next h => rw [← h]
    · rfl
  lastGood := setLane_lastGood ..
  node a := by rw [node_setLane]
  sec i := by rw [sec_setLane]
  flag c h := by simpa [State.flag] using h

end Updates

/-! ## Reports and events -/

theorem settling_driveLines (s : State) : Settling s (driveLines s) := by
  unfold driveLines
  split <;> exact settling_withEu _ _ fun _ h => h

theorem settling_setFlag (c : EventClass) (s : State) : Settling s (setFlag c s) := by
  refine (settling_withEu s _ fun n h => ?_).trans (settling_driveLines _)
  simp [BitVec.getLsbD_or, h]

theorem settling_countLoss (s : State) : Settling s (countLoss s) := by
  unfold countLoss
  refine (settling_reports s s.lu.reports (satSucc 65535 s.lu.losses)).trans ?_
  dsimp only
  split
  · exact .refl _
  · exact settling_setFlag _ _

theorem settling_queueReport (r : Report) (s : State) : Settling s (queueReport r s) := by
  have push (t : State) (q : Report) : Settling t (pushReport q t) := settling_reports t _ t.lu.losses
  unfold queueReport
  split
  · exact .refl _
  · split
    · exact push s r
    · split
      · exact settling_countLoss s
      · split
        · exact ((settling_reports s _ s.lu.losses).trans (push _ r)).trans (settling_countLoss _)
        · exact settling_countLoss s

theorem settling_raise (c : EventClass) (x : Subject) (d : Byte) (s : State) : Settling s (raise c x d s) := by
  unfold raise
  dsimp only
  split
  · exact settling_setFlag c s
  · exact (settling_setFlag c s).trans (settling_queueReport _ _)

/-! ## Queues -/

theorem settling_posted (s : State) : Settling s (posted s) := settling_withArb _ _

theorem settling_postFrost (a : Nat) (s : State) : Settling s (postFrost a s) := by
  unfold postFrost
  split
  · exact .refl _
  · exact (settling_withArb _ _).trans (settling_posted _)

theorem settling_postFlush (r : FlushRequest) (s : State) : Settling s (postFlush r s) := by
  unfold postFlush
  split
  · split
    · exact settling_withArb _ _
    · exact .refl _
  · exact (settling_withArb _ _).trans (settling_posted _)

theorem settling_postProbe (t : ProbeTarget) (s : State) : Settling s (postProbe t s) := by
  unfold postProbe
  split
  · exact .refl _
  · exact (settling_withArb _ _).trans (settling_posted _)

/-! ## Frost Guard -/

theorem settling_derive (i : Nat) (s : State) : Settling s (derive i s) := settling_setSec s i _ rfl

theorem settling_checkFan (i a : Nat) (s : State) : Settling s (checkFan i a s) := by
  unfold checkFan; split
  · exact settling_postFrost a s
  · exact .refl _

theorem settling_checkValve (i a : Nat) (s : State) : Settling s (checkValve i a s) := by
  unfold checkValve; split
  · exact settling_postFrost a s
  · exact .refl _

theorem settling_overrideCheck (i : Nat) (s : State) : Settling s (overrideCheck i s) :=
  (foldl_keeps (P := Settling s) (checkFan i) (fun a t h => h.trans (settling_checkFan i a t)) _ s (.refl s)).trans
    (settling_checkValve i _ _)

theorem settling_deriveAndCheck (i : Nat) (s : State) : Settling s (deriveAndCheck i s) :=
  (settling_derive i s).trans (settling_overrideCheck i _)

theorem settling_forSections {f : Nat → State → State} (h : ∀ i s, Settling s (f i s)) (s : State) :
    Settling s (forSections f s) :=
  forSections_keeps (P := Settling s) (fun i t k => k.trans (h i t)) (.refl s)

theorem settling_forNodes {f : Nat → State → State} (h : ∀ i s, Settling s (f i s)) (s : State) :
    Settling s (forNodes f s) :=
  forNodes_keeps (P := Settling s) (fun i t k => k.trans (h i t)) (.refl s)

theorem settling_afterLoopCeiling (n : Nat) (s : State) : Settling s (afterLoopCeiling n s) := by
  unfold afterLoopCeiling; split
  · exact settling_forSections settling_deriveAndCheck s
  · exact .refl _

theorem settling_markSection (i : Nat) (s : State) : Settling s (markSection i s) := by
  unfold markSection enterBlind enterStale
  dsimp only
  split
  · split
    · exact .refl _
    · split
      · exact ((settling_setSec s i _ (by rfl)).trans (settling_deriveAndCheck i _)).trans (settling_raise ..)
      · split
        · exact (settling_setSec s i _ (by rfl)).trans (settling_deriveAndCheck i _)
        · exact .refl _
  · exact .refl _

theorem settling_markSupply (s : State) : Settling s (markSupply s) := by
  unfold markSupply supplyBlind
  dsimp only
  split
  · exact .refl _
  · split
    · exact .refl _
    · split
      · exact ((settling_withLoop s _).trans (settling_afterLoopCeiling _ _)).trans (settling_raise ..)
      · exact settling_withLoop s _

theorem settling_markTransient (i : Nat) (s : State) : Settling s (markTransient i s) := by
  unfold markTransient; split
  · exact settling_setSec s i _ rfl
  · exact .refl _

theorem settling_frostMark (s : State) : Settling s (frostMark s) :=
  (((settling_forSections settling_markSection s).trans (settling_markSupply _)).trans
    (settling_withLoop _ _)).trans (settling_forSections settling_markTransient _)

theorem settling_countClamp (a : Nat) (s : State) : Settling s (countClamp a s) := by
  unfold countClamp; split
  · exact settling_setSec s _ _ rfl
  · exact .refl _

/-! ## Flush Accounting, Node Table and probes at a mark -/

theorem settling_reportBlocked (i : Nat) (s : State) : Settling s (reportBlocked i s) := by
  unfold reportBlocked; split
  · exact .refl _
  · exact (settling_setSec s i _ (by rfl)).trans (settling_raise ..)

theorem settling_markFlush (i : Nat) (s : State) : Settling s (markFlush i s) := by
  unfold markFlush
  dsimp only
  split
  · exact .refl _
  · split
    · split
      · exact settling_postFlush _ s
      · exact .refl _
    · split
      · exact settling_reportBlocked i s
      · exact settling_postFlush _ s

theorem settling_flushMark (s : State) : Settling s (flushMark s) := settling_forSections settling_markFlush s

theorem settling_ageNode (a : Nat) (s : State) : Settling s (ageNode a s) := by
  unfold ageNode; split
  · exact .refl _
  · exact settling_setNode s a _ rfl

theorem settling_nodeMark (s : State) : Settling s (nodeMark s) := settling_forNodes settling_ageNode s

theorem settling_laneProbeDue (l : Lane) (s : State) : Settling s (laneProbeDue l s) :=
  (settling_setLane s l _).trans (settling_postProbe _ _)

theorem settling_markLane (l : Lane) (s : State) : Settling s (markLane l s) := by
  unfold markLane; split
  · exact .refl _
  · split
    · exact settling_laneProbeDue l s
    · exact settling_setLane s l _

theorem settling_nodeProbeDue (a : Nat) (s : State) : Settling s (nodeProbeDue a s) :=
  (settling_setNode s a _ (by rfl)).trans (settling_postProbe _ _)

theorem settling_markNodeProbe (a : Nat) (s : State) : Settling s (markNodeProbe a s) := by
  unfold markNodeProbe; split
  · exact .refl _
  · split
    · exact settling_nodeProbeDue a s
    · exact settling_setNode s a _ rfl

theorem settling_probeMark (s : State) : Settling s (probeMark s) :=
  ((settling_markLane .a s).trans (settling_markLane .b _)).trans (settling_forNodes settling_markNodeProbe _)

/-- R109: all that a cycle mark can change. -/
theorem settling_announceMark (s : State) : Settling s (announceMark s) :=
  (((settling_nodeMark s).trans (settling_frostMark _)).trans (settling_flushMark _)).trans (settling_probeMark _)

/-! ## Walk and windows -/

theorem settling_goTo (i : Nat) (s : State) : Settling s (goTo i s) := settling_withSeq _ _
theorem settling_goOn (s : State) : Settling s (goOn s) := settling_withSeq _ _
theorem settling_enterIdle (s : State) : Settling s (enterIdle s) := settling_withSeq _ _

theorem settling_closeWindow (s : State) : Settling s (closeWindow s) := by
  unfold closeWindow
  dsimp only
  have h : Settling s (clearWindow s) := settling_withArb s _
  split
  · exact h.trans (settling_goOn _)
  · exact h.trans (settling_enterIdle _)
  · exact h
  · exact h

theorem settling_halt (c : HaltCause) (s : State) : Settling s (halt c s) := by
  unfold halt
  exact (settling_withSeq s _).trans (settling_raise ..)

/-! ## Exchanges that begin, and exchanges that end with no attempt (R77) -/

theorem settling_slotTakesResult (r : ExchangeResult) (s : State) : Settling s (slotTakesResult r s) := by
  unfold slotTakesResult
  split
  · dsimp only
    split
    · exact settling_goTo _ s
    · exact settling_goOn s
  · exact settling_enterIdle s
  · exact .refl _
  · exact .refl _

theorem settling_requestDone (s : State) : Settling s (requestDone s) := by
  unfold requestDone
  dsimp only
  split
  · exact (settling_withArb s _).trans (settling_closeWindow _)
  · exact settling_withArb s _

/-- A result without a success on a FLUSH START is handed on without a change but for a PASS_REPLY. -/
theorem settling_handOn (q : ExchangeRequest) (r : ExchangeResult) (s : State) (h : r.outcome ≠ .done) :
    Settling s (handOn q r s) := by
  unfold handOn
  split
  · have : successfulDrive r = false := by
      unfold successfulDrive; cases hr : r.outcome <;> simp_all
    rw [this]; exact .refl _
  · exact settling_queueReport _ s
  all_goals exact .refl _

theorem settling_handResult (q : ExchangeRequest) (r : ExchangeResult) (s : State) (h : r.outcome ≠ .done) :
    Settling s (handResult q r s) := by
  unfold handResult
  split
  · exact settling_slotTakesResult r s
  · exact (settling_handOn q r s h).trans (settling_requestDone _)

/-- R77: an exchange that ends with no attempt reaches neither health nor the Node Table. -/
theorem settling_endExchange (q : ExchangeRequest) (v : Option Nat) (c : Bool) (o : Outcome) (h : o ≠ .done)
    (s : State) : Settling s (endExchange q v c (.check o) s) := by
  have hh : ∀ t, healthStage (resultRecord s q v c (.check o)) t = t := by
    intro t
    unfold healthStage resultRecord Ending.check
    cases o <;> simp_all
  unfold endExchange
  dsimp only
  rw [hh]
  refine ((settling_flight s s.xe.flight _).trans (settling_flight _ none _)).trans (settling_handResult _ _ _ ?_)
  exact h

theorem settling_makeAttempt_first (f : Flight) (s : State) : Settling s (makeAttempt f 1 s) := by
  unfold makeAttempt
  split
  · exact settling_flight s _ s.xe.lastResult
  · simpa [Ending.check] using settling_endExchange f.request f.valueSent f.clamped .failed (by decide) s

theorem requestCheck_not_done {s : State} {q : ExchangeRequest} {o : Outcome} (h : requestCheck s q = some o) :
    o ≠ .done := by
  unfold requestCheck at h
  dsimp only at h
  intro ho
  subst ho
  repeat' split at h
  all_goals simp at h

/-- R77: the request of an exchange, whether it ends at a check or begins its first attempt. -/
theorem settling_beginExchange (q : ExchangeRequest) (s : State) : Settling s (beginExchange q s) := by
  unfold beginExchange
  split
  · next o h => exact settling_endExchange q none false o (requestCheck_not_done h) s
  · dsimp only
    refine Settling.trans ?_ (settling_makeAttempt_first _ _)
    split
    · exact settling_countClamp _ s
    · exact .refl _

/-! ## Decisions -/

theorem settling_requestExchange (q : ExchangeRequest) (s : State) : Settling s (requestExchange q s) :=
  (settling_withArb s _).trans (settling_beginExchange q _)

theorem settling_flushGrantSkipped (r : FlushRequest) (s : State) : Settling s (flushGrantSkipped r s) := by
  unfold flushGrantSkipped
  split
  · split
    · exact settling_reportBlocked _ s
    · exact .refl _
  · exact .refl _

theorem settling_grantFlush (r : FlushRequest) (s : State) : Settling s (grantFlush r s) := by
  unfold grantFlush
  split
  · exact settling_requestExchange _ s
  · exact (settling_flushGrantSkipped r s).trans (settling_withArb _ _)

theorem settling_grant (c : Candidate) (s : State) : Settling s (grant c s) := by
  unfold grant
  dsimp only
  have h : Settling s (s.withArb (movePointers c s.arb)) := settling_withArb s _
  split
  · split
    · exact (h.trans (settling_withArb _ _)).trans (settling_requestExchange _ _)
    · exact h
  · split
    · exact (h.trans (settling_withArb _ _)).trans (settling_grantFlush _ _)
    · exact h
  · split
    · exact (h.trans (settling_withArb _ _)).trans (settling_requestExchange _ _)
    · exact h
  · split
    · exact (h.trans (settling_withArb _ _)).trans (settling_requestExchange _ _)
    · exact h
  · exact h

theorem settling_decision (s : State) : Settling s (decision s) := by
  unfold decision
  split
  · split
    · exact settling_grant _ s
    · exact settling_closeWindow s
  · split
    · exact settling_closeWindow s
    · split
      · exact settling_closeWindow s
      · exact .refl _

theorem settling_makeDecision (s : State) : Settling s (makeDecision s) := by
  unfold makeDecision
  dsimp only
  have h : Settling s (s.withArb { s.arb with due := false }) := settling_withArb s _
  split
  · exact h.trans (settling_decision _)
  · exact h

/-! ## Slots -/

theorem settling_passMark (late : Bool) (s : State) : Settling s (passMark late s) := by
  unfold passMark countOverrun
  dsimp only
  have h (x : Sequencer) : Settling s (s.withSeq x) := settling_withSeq s x
  split
  · exact ((((h _).trans (settling_withSeq _ _)).trans (settling_raise ..)).trans (settling_announceMark _)).trans
      (settling_goOn _)
  · exact ((h _).trans (settling_announceMark _)).trans (settling_goOn _)

theorem settling_reachMark (s : State) : Settling s (reachMark s) := by
  unfold reachMark
  split
  · exact settling_passMark _ s
  · exact settling_withSeq s _
  · exact settling_passMark _ s
  · exact settling_passMark _ s

theorem settling_actSlot (x : Slot) (s : State) : Settling s (actSlot x s) := by
  have hx : Settling s (reachExchange x s) := (settling_withSeq s _).trans (settling_beginExchange _ _)
  unfold actSlot
  split
  · exact settling_reachMark s
  · exact hx
  · exact hx
  · exact hx
  · exact settling_withSeq s _
  · exact (settling_withSeq s _).trans (settling_withArb _ _)
  · exact settling_goTo _ s
  · exact (settling_withSeq s _).trans (settling_goTo _ _)
  · unfold reachReturn
    split
    · exact (settling_withSeq s _).trans (settling_goTo _ _)
    · exact .refl _
  · exact (settling_raise ..).trans (settling_goOn _)
  · exact settling_enterIdle s

theorem settling_reachSlot (i : Nat) (s : State) : Settling s (reachSlot i s) := by
  unfold reachSlot
  dsimp only
  split
  · exact (settling_withSeq s _).trans (settling_halt _ _)
  · exact ((settling_withSeq s _).trans (settling_withSeq _ _)).trans (settling_actSlot _ _)

/-! ## Settling a command -/

theorem settling_settleOnce {s t : State} (h : settleOnce s = some t) : Settling s t := by
  unfold settleOnce at h
  split at h
  · rw [← Option.some.inj h]; exact settling_makeDecision s
  · split at h
    · rw [← Option.some.inj h]; exact settling_reachSlot _ s
    · cases h

theorem settling_settleFor : ∀ (n : Nat) (s : State), Settling s (settleFor n s)
  | 0, s => .refl s
  | n + 1, s => by
    unfold settleFor
    split
    · next t h => exact (settling_settleOnce h).trans (settling_settleFor n t)
    · exact .refl s

/-- All that the walk and the decisions of one command can change. -/
theorem settling_settle (s : State) : Settling s (settle s) := settling_settleFor settleBound s

end Sys2Proof.Machine
end

