-- ==== Sys2Proof/Laws/Link.lean ====
section
/-! SUPPORT. What the end of a command, the taking of a valid frame, and the queueing of a report do, said once for each
case. -/

namespace Sys2Proof.Machine

/-! ## The end of a command -/

/-- Nothing follows within a command that leaves nothing over. -/
theorem settle_of_settled {s : State} (h : Settled s) : settle s = s := by
  simp [settle, settleBound, settleFor, settleOnce, h.1, h.2]

/-- The transmitter's choice touches the Link Unit alone. -/
theorem txStart_eq (s : State) : txStart s = s.withLu (sendIfFree s.lu) := by
  unfold txStart sendIfFree
  split <;> rfl

/-- The end of a command that leaves nothing over. -/
theorem finish_of_settled {s : State} (h : Settled s) : finish s = s.withLu (sendIfFree s.lu) := by
  rw [finish, settle_of_settled h, txStart_eq]

/-- A free transmitter with nothing to send stays free. -/
theorem sendIfFree_of_nothing {s : State} (h : NothingToSend s) : sendIfFree s.lu = s.lu := by
  unfold sendIfFree
  split
  · next ht =>
    obtain ⟨h1, h2⟩ := h ht
    unfold chooseFrame
    rw [h1]
    cases hs : s.lu.stream
    · rfl
    · rfl
    · rw [h2 hs]
  · rfl

/-- A busy transmitter stays with its frame. -/
theorem sendIfFree_busy {u : LinkUnit} (h : u.tx ≠ none) : sendIfFree u = u := if_neg h

/-- Between two commands nothing is left to do. -/
theorem finish_of_atRest {s : State} (h : AtRest s) : finish s = s := by
  rw [finish_of_settled h.1, sendIfFree_of_nothing h.2]
  rfl

/-! ## A valid frame (R162) -/

/-- On a link that is UP, the taking of a frame touches the Link Unit alone. -/
theorem linkTaken_up {s : State} (h : s.lu.link = .up) : linkTaken s = s.withLu (frameTaken s) := by
  simp only [linkTaken, h, frameTaken, linkAfter, linkTimeout, State.withLu]
  rfl

/-- A link that is LOST comes UP with its report, and then the frame is taken as on a link that is UP. -/
theorem linkTaken_lost {s : State} (h : s.lu.link = .lost) :
    linkTaken s = inform .linkUp .none 0 (s.withLu (frameTaken (s.withLu { s.lu with link := .up }))) := by
  simp only [linkTaken, h, frameTaken, linkAfter, linkTimeout, State.withLu]
  rfl

/-- R162 step 4: the response joins the tail. -/
theorem respond_eq (kind tag : Byte) (a : Answer) (s : State) :
    respond kind tag a s = s.withLu { s.lu with responses := s.lu.responses ++
      [{ tag := tag, kind := kind, code := a.code, data := a.data, powerOn := a.powerOn }] } := rfl

/-- R162: with room for a response, the frame is executed on the state that has taken it. -/
theorem takeValid_room {kind tag : Byte} {execute : State → Served} {s : State} (hup : s.lu.link = .up)
    (hroom : s.lu.responses.length < 4) :
    takeValid kind tag execute s =
      match execute (s.withLu (frameTaken s)) with
      | (u, some a) => respond kind tag a u
      | (u, none) => u := by
  have : ¬ responseCapacity ≤ s.lu.responses.length := by unfold responseCapacity; omega
  have h2 : ¬ responseCapacity ≤ (s.withLu (frameTaken s)).lu.responses.length := this
  rw [takeValid, linkTaken_up hup]
  exact if_neg h2

/-- R162 step 2: without room, the frame is counted as discarded and nothing more happens. -/
theorem takeValid_full {kind tag : Byte} {execute : State → Served} {s : State} (hup : s.lu.link = .up)
    (hroom : 4 ≤ s.lu.responses.length) :
    takeValid kind tag execute s = discardRequest (s.withLu (frameTaken s)) := by
  have : responseCapacity ≤ s.lu.responses.length := by unfold responseCapacity; omega
  have h2 : responseCapacity ≤ (s.withLu (frameTaken s)).lu.responses.length := this
  simp only [takeValid, linkTaken_up hup, h2, if_true]

/-- R154: while STARTING a request is answered NOT_NOW and changes nothing else. -/
theorem whileServed_starting {idle : List Byte} {body : State → Served} {s : State} (h : s.Starting) :
    whileServed idle body s = (s, some (.plain .notNow idle)) := if_pos h

/-- Outside STARTING the request is served. -/
theorem whileServed_served {idle : List Byte} {body : State → Served} {s : State} (h : ¬ s.Starting) :
    whileServed idle body s = body s := if_neg h

/-- A request on a ready part is served on the state that has taken its frame. -/
theorem request_ready {kind tag : Byte} {idle : List Byte} {body : State → Served} {s : State} (h : Ready s) :
    request kind tag idle body s =
      match body (s.withLu (frameTaken s)) with
      | (u, some a) => finish (respond kind tag a u)
      | (u, none) => finish u := by
  have h1 : ¬ (s.withLu (frameTaken s)).Starting := h.1
  rw [request, takeValid_room h.2.1 h.2.2.1, whileServed_served h1]
  rcases body (s.withLu (frameTaken s)) with ⟨u, _ | a⟩ <;> rfl

/-- A request on a ready part whose execution leaves the state as it stood is only answered. -/
theorem request_refused {kind tag : Byte} {idle : List Byte} {body : State → Served} {s : State} {code : ResultCode}
    {data : List Byte} (h : Ready s)
    (hb : body (s.withLu (frameTaken s)) = ((s.withLu (frameTaken s)), some (.plain code data))) :
    request kind tag idle body s = s.withLu (answered s kind tag code data) := by
  rw [request_ready h, hb]
  have hs : Settled (respond kind tag (.plain code data) (s.withLu (frameTaken s))) := h.2.2.2
  exact finish_of_settled hs

/-! ## Reports (R167, R168) and events (R182) -/

/-- The state with another report queue. -/
def State.withReports (s : State) (rs : List Report) : State := s.withLu { s.lu with reports := rs }

section WithReports
variable (s : State) (rs : List Report)
@[simp] theorem withReports_cfg : (s.withReports rs).cfg = s.cfg := rfl
@[simp] theorem withReports_demand : (s.withReports rs).demand = s.demand := rfl
@[simp] theorem withReports_nodes : (s.withReports rs).nodes = s.nodes := rfl
@[simp] theorem withReports_sections : (s.withReports rs).sections = s.sections := rfl
@[simp] theorem withReports_loop : (s.withReports rs).loop = s.loop := rfl
@[simp] theorem withReports_xe : (s.withReports rs).xe = s.xe := rfl
@[simp] theorem withReports_seq : (s.withReports rs).seq = s.seq := rfl
@[simp] theorem withReports_arb : (s.withReports rs).arb = s.arb := rfl
@[simp] theorem withReports_eu : (s.withReports rs).eu = s.eu := rfl
@[simp] theorem withReports_store : (s.withReports rs).store = s.store := rfl
@[simp] theorem withReports_mode : (s.withReports rs).mode = s.mode := rfl
@[simp] theorem withReports_plantTime : (s.withReports rs).plantTime = s.plantTime := rfl
@[simp] theorem withReports_ratePin : (s.withReports rs).ratePin = s.ratePin := rfl
@[simp] theorem withReports_rate : (s.withReports rs).rate = s.rate := rfl
@[simp] theorem withReports_pending : (s.withReports rs).pending = s.pending := rfl
@[simp] theorem withReports_rx : (s.withReports rs).lu.rx = s.lu.rx := rfl
@[simp] theorem withReports_link : (s.withReports rs).lu.link = s.lu.link := rfl
@[simp] theorem withReports_linkTimer : (s.withReports rs).lu.linkTimer = s.lu.linkTimer := rfl
@[simp] theorem withReports_responses : (s.withReports rs).lu.responses = s.lu.responses := rfl
@[simp] theorem withReports_reports : (s.withReports rs).lu.reports = rs := rfl
@[simp] theorem withReports_stream : (s.withReports rs).lu.stream = s.lu.stream := rfl
@[simp] theorem withReports_tx : (s.withReports rs).lu.tx = s.lu.tx := rfl
@[simp] theorem withReports_seqNo : (s.withReports rs).lu.seqNo = s.lu.seqNo := rfl
@[simp] theorem withReports_fillTimer : (s.withReports rs).lu.fillTimer = s.lu.fillTimer := rfl
@[simp] theorem withReports_counters : (s.withReports rs).lu.counters = s.lu.counters := rfl
@[simp] theorem withReports_losses : (s.withReports rs).lu.losses = s.lu.losses := rfl
end WithReports

/-- Reports queued one after the other stand in the order queued. -/
theorem reportsWith_append {s t : State} {as : List Report} (bs : List Report) (hst : t.lu.stream = s.lu.stream)
    (hr : t.lu.reports = reportsWith s as) : reportsWith t bs = reportsWith s (as ++ bs) := by
  unfold reportsWith at *
  rw [hst]
  split <;> simp_all

/-- Room that is left once reports have been queued. -/
theorem roomForReports_after {s t : State} {as : List Report} {n : Nat} (h : RoomForReports s (as.length + n))
    (hst : t.lu.stream = s.lu.stream) (hr : t.lu.reports = reportsWith s as) : RoomForReports t n := by
  unfold reportsWith at hr
  unfold RoomForReports at *
  rw [hst, hr]
  rcases h with h | h
  · exact .inl h
  · split
    · left; assumption
    · right; simp; omega

/-- Room for more reports is room for fewer. -/
theorem RoomForReports.le {s : State} {m n : Nat} (h : RoomForReports s n) (hmn : m ≤ n) : RoomForReports s m := by
  rcases h with h | h
  · exact .inl h
  · exact .inr (by omega)

/-- R167: with the stream OFF a report is discarded. -/
theorem queueReport_off {r : Report} {s : State} (h : s.lu.stream = .off) : queueReport r s = s := if_pos h

/-- R167: with room, a report joins the tail, and with the stream OFF it is discarded. -/
theorem queueReport_room {r : Report} {s : State} (h : RoomForReports s 1) :
    queueReport r s = s.withReports (reportsWith s [r]) := by
  unfold queueReport reportsWith
  split
  · rfl
  · next ho =>
    have : s.lu.reports.length < reportCapacity := by
      rcases h with h | h
      · exact absurd h ho
      · unfold reportCapacity; omega
    rw [if_pos this]
    rfl

/-- The lines follow the flags after every change of a flag. -/
theorem setFlag_eq (c : EventClass) (s : State) : setFlag c s = s.withEu (unitAfter s c) := by
  unfold setFlag driveLines unitAfter unitWith flagBit
  split <;> split <;> first | rfl | contradiction

/-- R184, R186: an acknowledgement touches the Event Unit alone. -/
theorem clearFlags_eq (classes : BitVec 12) (s : State) :
    clearFlags classes s = s.withEu (unitWith s (s.eu.flags &&& ~~~classes)) := by
  unfold clearFlags driveLines unitWith
  split <;> split <;> first | rfl | contradiction

/-- The Event Unit after an event depends on the store, the alarm map and the Event Unit alone. -/
theorem unitAfter_congr {s t : State} (c : EventClass) (hs : t.store = s.store) (hc : t.cfg = s.cfg)
    (he : t.eu = s.eu) : unitAfter t c = unitAfter s c := by
  simp [unitAfter, unitWith, State.Starting, hs, hc, he]

@[simp] theorem unitAfter_withLu (s : State) (u : LinkUnit) (c : EventClass) :
    unitAfter (s.withLu u) c = unitAfter s c := unitAfter_congr c rfl rfl rfl

@[simp] theorem unitAfter_withReports (s : State) (rs : List Report) (c : EventClass) :
    unitAfter (s.withReports rs) c = unitAfter s c := unitAfter_congr c rfl rfl rfl

/-- An event report carries the plant time and the cycle number alone of the state. -/
theorem eventNow_congr {s t : State} (c : EventClass) (x : Subject) (d : Byte) (hp : t.plantTime = s.plantTime)
    (hc : t.seq.cycle = s.seq.cycle) : eventNow t c x d = eventNow s c x d := by
  simp [eventNow, hp, hc]

theorem infoNow_congr {s t : State} (c : InfoClass) (x : Subject) (d : Byte) (hp : t.plantTime = s.plantTime)
    (hc : t.seq.cycle = s.seq.cycle) : infoNow t c x d = infoNow s c x d := by
  simp [infoNow, hp, hc]

/-- R182: with room, an event sets its flag, drives the lines and queues its report. -/
theorem raise_room {c : EventClass} {x : Subject} {d : Byte} {s : State} (hc : c ≠ .reportLoss)
    (h : RoomForReports s 1) :
    raise c x d s = (s.withEu (unitAfter s c)).withReports (reportsWith s [eventNow s c x d]) := by
  have h2 : RoomForReports (s.withEu (unitAfter s c)) 1 := h
  simp only [raise, hc, if_false, setFlag_eq]
  rw [queueReport_room h2]
  rfl

/-- R183: with room, an informational report joins the tail. -/
theorem inform_room {c : InfoClass} {x : Subject} {d : Byte} {s : State} (h : RoomForReports s 1) :
    inform c x d s = s.withReports (reportsWith s [infoNow s c x d]) := by
  rw [inform, queueReport_room h]
  rfl

/-- What a queued report can change: the report queue, the loss count, and at a loss the flag of REPORT_LOSS with the
lines. -/
theorem queueReport_frame (r : Report) (s : State) :
    ∃ rs n eu, queueReport r s = (s.withEu eu).withLu { s.lu with reports := rs, losses := n } := by
  have loss : ∀ t : State, ∃ n eu, countLoss t = (t.withEu eu).withLu { t.lu with losses := n } := by
    intro t
    unfold countLoss
    dsimp only
    split
    · exact ⟨_, t.eu, rfl⟩
    · rw [setFlag_eq]; exact ⟨_, _, rfl⟩
  unfold queueReport
  split
  · exact ⟨s.lu.reports, s.lu.losses, s.eu, rfl⟩
  split
  · exact ⟨_, s.lu.losses, s.eu, rfl⟩
  split
  · obtain ⟨n, eu, h⟩ := loss s; exact ⟨s.lu.reports, n, eu, h⟩
  split
  · obtain ⟨n, eu, h⟩ := loss (pushReport r (dropOldestSample s)); exact ⟨_, n, eu, h⟩
  · obtain ⟨n, eu, h⟩ := loss s; exact ⟨s.lu.reports, n, eu, h⟩

end Sys2Proof.Machine
end

