-- ==== Sys2Proof/Laws/PerInstr.lean ====
section
/-! SUPPORT. The family FrameFits, one lemma per command: the frame that carries a request the outside can send is 7 to
245 octets long (R159). -/

namespace Sys2Proof.Laws

open Sys2Proof.Machine

/-- R159: a frame is 7 to 245 octets long. -/
def FrameFits.Statement (c : Instr) : Prop :=
  c.wf = true → ∀ octets, requestFrame c = some octets → 7 ≤ octets.length ∧ octets.length ≤ 245

/-- A frame is its payload and seven octets more. -/
theorem linkFrame_length (kind tag : Byte) (payload : List Byte) :
    (linkFrame kind tag payload).length = payload.length + 7 := by
  simp [linkFrame, wordOctets]

/-- A payload of at most 238 octets makes a frame that fits. -/
theorem linkFrame_fits {kind tag : Byte} {payload octets : List Byte} (h : payload.length ≤ 238)
    (ho : some (linkFrame kind tag payload) = some octets) : 7 ≤ octets.length ∧ octets.length ≤ 245 := by
  cases ho
  rw [linkFrame_length]
  omega

/-- Entries of `len` octets each make a payload of their number times `len`. -/
theorem flatMap_length {ε : Type} {f : ε → List Byte} {len : Nat} (hf : ∀ e, (f e).length = len) (es : List ε) :
    (es.flatMap f).length = es.length * len := by
  simp [List.length_flatMap, hf]

/-- R172: octets of a CYCLE entry. -/
theorem slotEntryOctets_length (e : SlotEntry) : (slotEntryOctets e).length = 11 := by
  simp [slotEntryOctets, wordOctets]

/-- R172: octets of a NODE entry. -/
theorem nodeEntryOctets_length (e : NodeEntry) : (nodeEntryOctets e).length = 12 := by
  simp [nodeEntryOctets, wordOctets]

/-- R172: octets of a SECTION entry. -/
theorem sectionEntryOctets_length (e : SectionEntry) : (sectionEntryOctets e).length = 28 := by
  simp [sectionEntryOctets, wordOctets]

/-- R172: octets of a LOOP entry. -/
theorem loopEntryOctets_length (e : LoopEntry) : (loopEntryOctets e).length = 26 := by
  simp [loopEntryOctets, wordOctets]

/-- R172: octets of a LINK_SET entry. -/
theorem linkSetEntryOctets_length (e : LinkSetEntry) : (linkSetEntryOctets e).length = 9 := by
  simp [linkSetEntryOctets]

/-- A TABLE_WRITE whose entries fit makes a frame that fits. -/
theorem writeFrame_fits {ε : Type} {f : ε → List Byte} {len : Nat} (hf : ∀ e, (f e).length = len) {id tag first count : Byte}
    {es : List ε} {octets : List Byte} (h : writeFits len es.length = true)
    (ho : some (writeFrame id f tag first count es) = some octets) : 7 ≤ octets.length ∧ octets.length ≤ 245 := by
  refine linkFrame_fits ?_ ho
  simp only [writeFits, payloadFits, decide_eq_true_eq] at h
  simp only [List.length_cons, flatMap_length hf]
  omega

theorem FrameFits.powerOnReset (rateHigh : Bool) : FrameFits.Statement (.powerOnReset rateHigh) :=
  fun _ _ ho => nomatch ho

theorem FrameFits.startupReadEnd (read : ReadBack) : FrameFits.Statement (.startupReadEnd read) :=
  fun _ _ ho => nomatch ho

theorem FrameFits.plantTimeTick : FrameFits.Statement .plantTimeTick :=
  fun _ _ ho => nomatch ho

theorem FrameFits.receiverOctet (octet : Byte) (charError : Bool) :
    FrameFits.Statement (.receiverOctet octet charError) :=
  fun _ _ ho => nomatch ho

theorem FrameFits.gapTimerExpiry : FrameFits.Statement .gapTimerExpiry :=
  fun _ _ ho => nomatch ho

theorem FrameFits.demand (tag : Byte) (pairs : List (Byte × Word)) : FrameFits.Statement (.demand tag pairs) := by
  intro h _ ho
  refine linkFrame_fits ?_ ho
  simp only [Instr.wf, payloadFits, decide_eq_true_eq] at h
  rw [flatMap_length (len := 3) fun _ => rfl]
  omega

theorem FrameFits.tableWriteCycle (tag first count : Byte) (entries : List SlotEntry) :
    FrameFits.Statement (.tableWriteCycle tag first count entries) :=
  fun h _ ho => writeFrame_fits (f := slotEntryOctets) (len := 11) slotEntryOctets_length h ho

theorem FrameFits.tableWriteNode (tag first count : Byte) (entries : List NodeEntry) :
    FrameFits.Statement (.tableWriteNode tag first count entries) :=
  fun h _ ho => writeFrame_fits (f := nodeEntryOctets) (len := 12) nodeEntryOctets_length h ho

theorem FrameFits.tableWriteSection (tag first count : Byte) (entries : List SectionEntry) :
    FrameFits.Statement (.tableWriteSection tag first count entries) :=
  fun h _ ho => writeFrame_fits (f := sectionEntryOctets) (len := 28) sectionEntryOctets_length h ho

theorem FrameFits.tableWriteLoop (tag first count : Byte) (entries : List LoopEntry) :
    FrameFits.Statement (.tableWriteLoop tag first count entries) :=
  fun h _ ho => writeFrame_fits (f := loopEntryOctets) (len := 26) loopEntryOctets_length h ho

theorem FrameFits.tableWriteDemand (tag first count : Byte) (entries : List Word) :
    FrameFits.Statement (.tableWriteDemand tag first count entries) :=
  fun h _ ho => writeFrame_fits (f := wordOctets) (len := 2) (fun _ => rfl) h ho

theorem FrameFits.tableWriteHold (tag first count : Byte) (entries : List Word) :
    FrameFits.Statement (.tableWriteHold tag first count entries) :=
  fun h _ ho => writeFrame_fits (f := wordOctets) (len := 2) (fun _ => rfl) h ho

theorem FrameFits.tableWriteAlarmMap (tag first count : Byte) (entries : List Byte) :
    FrameFits.Statement (.tableWriteAlarmMap tag first count entries) :=
  fun h _ ho => writeFrame_fits (f := fun b => [b]) (len := 1) (fun _ => rfl) h ho

theorem FrameFits.tableWriteLinkSet (tag first count : Byte) (entries : List LinkSetEntry) :
    FrameFits.Statement (.tableWriteLinkSet tag first count entries) :=
  fun h _ ho => writeFrame_fits (f := linkSetEntryOctets) (len := 9) linkSetEntryOctets_length h ho

theorem FrameFits.tableRead (tag table first count : Byte) :
    FrameFits.Statement (.tableRead tag table first count) :=
  fun _ _ ho => linkFrame_fits (by simp) ho

theorem FrameFits.pass (tag node operation parameter : Byte) (value : Word) :
    FrameFits.Statement (.pass tag node operation parameter value) :=
  fun _ _ ho => linkFrame_fits (by simp [wordOctets]) ho

theorem FrameFits.start (tag slot : Byte) : FrameFits.Statement (.start tag slot) :=
  fun _ _ ho => linkFrame_fits (by simp) ho

theorem FrameFits.stop (tag : Byte) : FrameFits.Statement (.stop tag) :=
  fun _ _ ho => linkFrame_fits (by simp) ho

theorem FrameFits.reports (tag stream : Byte) : FrameFits.Statement (.reports tag stream) :=
  fun _ _ ho => linkFrame_fits (by simp) ho

theorem FrameFits.resume (tag : Byte) : FrameFits.Statement (.resume tag) :=
  fun _ _ ho => linkFrame_fits (by simp) ho

theorem FrameFits.hold (tag : Byte) : FrameFits.Statement (.hold tag) :=
  fun _ _ ho => linkFrame_fits (by simp) ho

theorem FrameFits.reviveNode (tag node : Byte) : FrameFits.Statement (.reviveNode tag node) :=
  fun _ _ ho => linkFrame_fits (by simp) ho

theorem FrameFits.reviveLane (tag lane : Byte) : FrameFits.Statement (.reviveLane tag lane) :=
  fun _ _ ho => linkFrame_fits (by simp) ho

theorem FrameFits.flush (tag sec : Byte) : FrameFits.Statement (.flush tag sec) :=
  fun _ _ ho => linkFrame_fits (by simp) ho

theorem FrameFits.ack (tag : Byte) (classes : Word) : FrameFits.Statement (.ack tag classes) :=
  fun _ _ ho => linkFrame_fits (by simp [wordOctets]) ho

theorem FrameFits.resetField (tag : Byte) : FrameFits.Statement (.resetField tag) :=
  fun _ _ ho => linkFrame_fits (by simp) ho

theorem FrameFits.resetLink (tag : Byte) : FrameFits.Statement (.resetLink tag) :=
  fun _ _ ho => linkFrame_fits (by simp) ho

theorem FrameFits.resetFull (tag : Byte) : FrameFits.Statement (.resetFull tag) :=
  fun _ _ ho => linkFrame_fits (by simp) ho

theorem FrameFits.save (tag : Byte) : FrameFits.Statement (.save tag) :=
  fun _ _ ho => linkFrame_fits (by simp) ho

theorem FrameFits.clear (tag : Byte) : FrameFits.Statement (.clear tag) :=
  fun _ _ ho => linkFrame_fits (by simp) ho

theorem FrameFits.idleTimeEnd : FrameFits.Statement .idleTimeEnd :=
  fun _ _ ho => nomatch ho

theorem FrameFits.commandFrameSent : FrameFits.Statement .commandFrameSent :=
  fun _ _ ho => nomatch ho

theorem FrameFits.responseTimerExpiry : FrameFits.Statement .responseTimerExpiry :=
  fun _ _ ho => nomatch ho

theorem FrameFits.replyOctet (lane : Lane) (octet : Byte) (charError : Bool) :
    FrameFits.Statement (.replyOctet lane octet charError) :=
  fun _ _ ho => nomatch ho

theorem FrameFits.replyGapExpiry : FrameFits.Statement .replyGapExpiry :=
  fun _ _ ho => nomatch ho

theorem FrameFits.replyWindowExpiry : FrameFits.Statement .replyWindowExpiry :=
  fun _ _ ho => nomatch ho

theorem FrameFits.waitTimerExpiry : FrameFits.Statement .waitTimerExpiry :=
  fun _ _ ho => nomatch ho

theorem FrameFits.laneProbeCountdownEnd (lane : Lane) : FrameFits.Statement (.laneProbeCountdownEnd lane) :=
  fun _ _ ho => nomatch ho

theorem FrameFits.nodeProbeCountdownEnd (node : Nat) : FrameFits.Statement (.nodeProbeCountdownEnd node) :=
  fun _ _ ho => nomatch ho

theorem FrameFits.minorCycleTimerZero : FrameFits.Statement .minorCycleTimerZero :=
  fun _ _ ho => nomatch ho

theorem FrameFits.intervalTimerExpiry (sec : Nat) : FrameFits.Statement (.intervalTimerExpiry sec) :=
  fun _ _ ho => nomatch ho

theorem FrameFits.flushTimerExpiry (sec : Nat) : FrameFits.Statement (.flushTimerExpiry sec) :=
  fun _ _ ho => nomatch ho

theorem FrameFits.storeWriteEnd (read : ReadBack) : FrameFits.Statement (.storeWriteEnd read) :=
  fun _ _ ho => nomatch ho

theorem FrameFits.linkTimerExpiry : FrameFits.Statement .linkTimerExpiry :=
  fun _ _ ho => nomatch ho

theorem FrameFits.fillTimerExpiry : FrameFits.Statement .fillTimerExpiry :=
  fun _ _ ho => nomatch ho

theorem FrameFits.transmitFrameEnd : FrameFits.Statement .transmitFrameEnd :=
  fun _ _ ho => nomatch ho

end Sys2Proof.Laws
end

