-- ==== Sys2Proof/Laws/Store.lean ====
section
/-! SUPPORT. What a read of the medium can return, said once. -/

namespace Sys2Proof.Machine

@[simp] theorem readBack_asHeld (held : Option StoredImage) : readBack held .asHeld = held := rfl

@[simp] theorem readBack_absent (held : Option StoredImage) : readBack held .absent = none := rfl

@[simp] theorem holdsValid_none : holdsValid none = false := rfl

@[simp] theorem holdsValid_some (i : StoredImage) : holdsValid (some i) = imageChecks i := rfl

/-- An image whose check value differs does not check. -/
theorem imageChecks_eq_false {i : StoredImage} (h : i.check ≠ crc32 (tablesOctets i.tables)) : imageChecks i = false := by
  simp [imageChecks, h]

/-- An altered image that fails its own check is returned, whatever is held. -/
theorem readBack_altered_invalid {image : StoredImage} (held : Option StoredImage) (h : imageChecks image = false) :
    readBack held (.altered image) = some image := by
  simp [readBack, h]

/-- Where a valid image is held, an altered one is returned as it is. -/
theorem readBack_altered_held {held : Option StoredImage} (image : StoredImage) (h : holdsValid held = true) :
    readBack held (.altered image) = some image := by
  simp [readBack, h]

/-- A read never finds a valid image where none is held (log 26). -/
theorem holdsValid_readBack {held : Option StoredImage} (r : ReadBack) (h : holdsValid held = false) :
    holdsValid (readBack held r) = false := by
  cases r with
  | asHeld => exact h
  | absent => rfl
  | altered image =>
    cases hc : imageChecks image with
    | false => rw [readBack_altered_invalid held hc]; simpa [holdsValid] using hc
    | true => simp [readBack, hc, h]

/-- What the store writes checks. -/
theorem holdsValid_imageOf (t : ConfigTables) : holdsValid (some (imageOf t)) = true := by
  simp [holdsValid, imageChecks, imageOf]

end Sys2Proof.Machine
end

