-- ==== Sys2Proof/Tests/Slice0.lean ====
section
/-! SUPPORT. Tests: an ill-formed command for each check of WellFormed.lean, the reference's worked examples, one or two
small commands of each kind, and for each obligation with hypotheses states and operands that meet them, clause by
clause. -/

namespace Sys2Proof.Tests

/- One kernel thread at a time. -/
set_option Elab.async false

open Sys2Proof Sys2Proof.Machine

/-! ## A small plant -/

/-- A node of a kind, with the defaults of TABLE 1-2 in its other fields. -/
def nodeOf (k : NodeKind) : NodeCfg := { defaultNode with kind := k }

/-- A slot of a kind. -/
def slotOf (k : SlotKind) (node frame : Byte) (time : Word) : Slot :=
  { defaultSlot with kind := k, node := node, frame := frame, time := time, retries := 1 }

/-- Sensors 1 (outlet of section 0), 2 (supply), 3 (return) and 4 (ambient), fan 10, valve 12 and pump 13. -/
def plant : ConfigTables := { defaultTables with
  nodes := [(0, NodeKind.sensor), (1, .sensor), (2, .sensor), (3, .sensor), (9, .fan), (11, .valve), (12, .pump)].foldl
    (fun v p => v.setIfInBounds p.1 (nodeOf p.2)) defaultTables.nodes,
  sections := defaultTables.sections.setIfInBounds 0
    { defaultSection with enabled := true, outlet := 1, valve := 12, fans := [10] },
  loop := { defaultLoop with supply := 2, ret := 3, ambient := 4, pumps := [13] },
  cycle := [(0, slotOf .gap 0 0 3), (2, slotOf .exchange 1 0 0), (3, slotOf .gap 0 0 1), (4, slotOf .exchange 10 1 0),
      (5, slotOf .gap 0 0 1), (6, slotOf .mark 0 0 50), (7, slotOf .gap 0 0 1), (8, slotOf .window 0 0 0),
      (9, slotOf .gap 0 0 1), (10, slotOf .ret 0 0 0), (11, slotOf .exchange 40 0 0)].foldl
    (fun v p => v.setIfInBounds p.1 p.2) defaultTables.cycle }

/-- The part with the plant configured, out of STARTING, its link UP, its walk IDLE. -/
def ready : State := { State.reset with
  cfg := plant, store := { state := .idle, image := .blank, stored := none, copy := none },
  lu := { State.reset.lu with link := .up, linkTimer := some 3000000 } }

/-- `ready` with the walk RUNNING at slot `i` in an activity. -/
def running (i : Nat) (a : Activity) : State := { ready with
  seq := { ready.seq with state := .running, current := i, activity := a, timer := .counting, timerLeft := 5000 } }

/-- `ready` with its lines driven and a command waiting. -/
def about (c : Instr) : State := { driveLines ready with pending := [c] }

/-- `ready` in SUPERVISED mode. -/
def supervised : State := { ready with mode := .supervised }

/-- `s` with its walk STOPPING. -/
def stopping (s : State) : State := { s with seq := { s.seq with state := .stopping } }

/-- The request of the POLL of slot 2, or of the DRIVE of slot 4. -/
def slotQuery (node : Nat) (kind : FrameKind) (retries : Nat) : ExchangeRequest :=
  { origin := .slot, node := node, kind := kind, lane := .a, retries := retries, alternate := false, retryOn := 0,
    sec := 0, tag := 0, parameter := 0, value := 0 }

/-- An attempt in a phase with octets held. -/
def attemptIn (q : ExchangeRequest) (n : Nat) (p : Phase) (octets : List Byte) : Flight :=
  { request := q, frame := commandFrame q.node q.kind [], valueSent := none, clamped := false, attempt := n, lane := .a,
    phase := p, octets := octets, frameLeft := 0, replyLeft := 0, gapLeft := 0, windowLeft := 0 }

/-- `s` with an attempt in flight. -/
def flying (f : Flight) (s : State) : State := { s with xe := { s.xe with flight := some f } }

/-- The first six octets of a reply of a node to a frame kind, with a status and a value. -/
def replyOctets (node kind status : Byte) (value : Word) : List Byte :=
  [node, 0x80 ||| kind <<< 4 ||| status] ++ wordOctets value ++ [0, 0]

/-- A waiting run-to-end window at slot 8 of a RUNNING walk. -/
def waitingWindow : State := { running 8 .window with
  arb := { ready.arb with window := { isOpen := true, kind := .runToEnd, length := 5000, elapsed := 0, stopping := false,
                                      inFlight := none } } }

/-- `s` with the record of node `a` replaced. -/
def withNode (a : Nat) (n : NodeState) (s : State) : State := s.setNode a n

/-- A SILENT node. -/
def silentNode : NodeState := { NodeState.powerOn with health := .silent, streak := 3, probeCountdown := 1 }

/-- A DOWN lane. -/
def downLane : LaneState := { LaneState.powerOn with health := .down, streak := 8, probeCountdown := 1 }

/-- A sample report and an event report, for filling the report queue. -/
def aSample : Report :=
  .sample { node := 1, time := 0, cycle := 0, value := none,
            status := { busy := false, fault := false, localCtl := false, ice := false }, valueSent := none,
            clamped := false }
def anEvent : Report := .event { cls := .event .blind, subject := .sec 0, time := 0, cycle := 0, detail := 0 }

/-- `s` with a report queue. -/
def reporting (rs : List Report) (s : State) : State := { s with lu := { s.lu with reports := rs } }

/-- A response that waits. -/
def aResponse : Response := { tag := 0, kind := kindPass, code := .ok, data := [], powerOn := false }

/-- The state after a command. -/
def after (c : Instr) (s : State) : State :=
  match exec c s with
  | .next t => t
  | .fault _ => s
  | .refused _ => s

/-! ## WellFormed: what each check refuses -/

/-- The default tables with one field out of its octets. -/
def oddNode (c : NodeCfg) : ReadBack :=
  .altered { tables := { defaultTables with nodes := defaultTables.nodes.setIfInBounds 47 c }, check := 0 }
def oddSection (c : SectionCfg) : ReadBack :=
  .altered { tables := { defaultTables with sections := defaultTables.sections.setIfInBounds 7 c }, check := 0 }
def oddLoop (c : LoopCfg) : ReadBack := .altered { tables := { defaultTables with loop := c }, check := 0 }

theorem test_default_image_fits : (ReadBack.altered { tables := defaultTables, check := 0 }).wf = true := by
  decide +kernel

theorem test_node_fields_fit :
    ([{ defaultNode with gain := 32768 }, { defaultNode with offset := -32769 }, { defaultNode with low := -32769 },
      { defaultNode with high := 32768 }, { defaultNode with silence := 256 }].all fun c => !(oddNode c).wf) = true := by
  decide +kernel

theorem test_section_fields_fit :
    ([{ defaultSection with outlet := 256 }, { defaultSection with valve := 256 },
      { defaultSection with fans := [1, 2, 3, 4, 5] }, { defaultSection with fans := [256] },
      { defaultSection with nominalMargin := 65536 }, { defaultSection with transientMargin := 65536 },
      { defaultSection with band := 65536 }, { defaultSection with riseLimit := 65536 },
      { defaultSection with valveMin := 65536 }, { defaultSection with staleLimit := 256 },
      { defaultSection with blindLimit := 256 }, { defaultSection with blindCeiling := 65536 },
      { defaultSection with transientWindow := 256 }, { defaultSection with flushThreshold := 65536 },
      { defaultSection with flushDuration := 65536 }, { defaultSection with postThreshold := 256 }].all
      fun c => !(oddSection c).wf) = true := by
  decide +kernel

theorem test_loop_fields_fit :
    ([{ defaultLoop with freezePoint := 32768 }, { defaultLoop with supply := 256 }, { defaultLoop with ret := 256 },
      { defaultLoop with ambient := 256 }, { defaultLoop with supplyFloor := -32769 }, { defaultLoop with band := 65536 },
      { defaultLoop with riseLimit := 65536 }, { defaultLoop with staleLimit := 256 },
      { defaultLoop with blindLimit := 256 }, { defaultLoop with blindCeiling := 65536 },
      { defaultLoop with deepThreshold := 32768 }, { defaultLoop with pumps := [1, 2, 3] },
      { defaultLoop with pumps := [256] }, { defaultLoop with pumpFloor := 65536 },
      { defaultLoop with normalInterval := 65536 }, { defaultLoop with deepInterval := 65536 }].all
      fun c => !(oddLoop c).wf) = true := by
  decide +kernel

theorem test_hold_and_link_set_fit :
    (ReadBack.altered { tables := { defaultTables with hold := defaultTables.hold.setIfInBounds 0 65536 },
                        check := 0 }).wf = false
      ∧ ([{ defaultLinkSet with responseTimeout := 256 }, { defaultLinkSet with probeInterval := 256 },
          { defaultLinkSet with linkTimeout := 256 }, { defaultLinkSet with fillInterval := 256 }].all
          fun c => !(ReadBack.altered { tables := { defaultTables with linkSet := c }, check := 0 }).wf) = true := by
  decide +kernel

/-- A slot entry, a NODE entry, a SECTION entry, a LOOP entry and a LINK_SET entry that are accepted. -/
def slotEntry : SlotEntry :=
  { kind := 4, node := 0, frame := 0, lane := 0, retries := 0, alternate := 0, conditions := 0, target := 0, time := 1,
    note := 0 }
def nodeEntry : NodeEntry :=
  { kind := 1, lane := 0, gain := 4096, offset := 0, low := 0x8000, high := 0x7FFF, report := 0, silence := 15 }
def sectionEntry : SectionEntry :=
  { enabled := 0, outlet := 1, valve := 12, fanCount := 1, fans := #v[10, 0, 0, 0], nominalMargin := 500,
    transientMargin := 800, band := 1000, riseLimit := 20, valveMin := 200, staleLimit := 10, blindLimit := 30,
    blindCeiling := 0, transientWindow := 8, flushThreshold := 100, flushDuration := 90, postThreshold := 3 }
def loopEntry : LoopEntry :=
  { freezePoint := 0xF2B8, supply := 2, ret := 3, ambient := 4, supplyFloor := 500, band := 500, riseLimit := 20,
    staleLimit := 10, blindLimit := 30, blindCeiling := 0, deepThreshold := 0xF63C, pumpCount := 1, pumps := #v[13, 0],
    pumpFloor := 300, normalInterval := 3600, deepInterval := 900 }
def linkSetEntry : LinkSetEntry :=
  { responseTimeout := 50, probeInterval := 20, frostLevel := 0, flushLevel := 0, passLevel := 1, probeLevel := 1,
    autoHold := 0, linkTimeout := 30, fillInterval := 25 }

theorem test_request_fits_its_frame :
    ((Instr.demand 0 (List.replicate 79 (1, 0))).wf = true ∧ (Instr.demand 0 (List.replicate 80 (1, 0))).wf = false)
      ∧ (Instr.tableWriteCycle 0 0 0 (List.replicate 22 slotEntry)).wf = false
      ∧ (Instr.tableWriteNode 0 1 0 (List.replicate 20 nodeEntry)).wf = false
      ∧ (Instr.tableWriteSection 0 0 0 (List.replicate 9 sectionEntry)).wf = false
      ∧ (Instr.tableWriteLoop 0 0 0 (List.replicate 10 loopEntry)).wf = false
      ∧ (Instr.tableWriteDemand 0 1 0 (List.replicate 118 0)).wf = false
      ∧ (Instr.tableWriteHold 0 1 0 (List.replicate 118 0)).wf = false
      ∧ (Instr.tableWriteAlarmMap 0 0 0 (List.replicate 236 0)).wf = false
      ∧ (Instr.tableWriteLinkSet 0 0 0 (List.replicate 27 linkSetEntry)).wf = false := by
  decide +kernel

theorem test_numbers_name_something :
    (Instr.nodeProbeCountdownEnd 0).wf = false ∧ (Instr.nodeProbeCountdownEnd 49).wf = false
      ∧ (Instr.intervalTimerExpiry 8).wf = false ∧ (Instr.flushTimerExpiry 8).wf = false
      ∧ (Instr.startupReadEnd (oddNode { defaultNode with silence := 256 })).wf = false
      ∧ (Instr.storeWriteEnd (oddNode { defaultNode with silence := 256 })).wf = false := by
  decide +kernel

/-! ## The reference's worked examples -/

/-- No row of the table has bits. -/
theorem test_no_word_spells_a_command : decodeTableWord 32 0x12345678 = none ∧ ready.withFetchWord 8 1 = ready := by
  decide +kernel

/-- TABLE 1-3. -/
theorem test_table_1_3 :
    convert 5243 (-500) (-1234) = -2080 ∧ convert 5243 (-500) 1234 = 1079 ∧ convert 4096 0 (-1) = -1
      ∧ convert 1 0 (-1) = -1 ∧ convert 1 0 1 = 0 ∧ convert 32767 0 32767 = 32767
      ∧ convert 32767 (-32768) (-32768) = -32768 := by
  decide +kernel

/-- Section 2 of TABLE 2-5 and TABLE 2-8: outlet 20, fans 21 and 22, valve 23. -/
def sectionTwo : State := { ready with
  cfg := { plant with
    nodes := [(19, NodeKind.sensor), (20, .fan), (21, .fan), (22, .valve)].foldl
      (fun v p => v.setIfInBounds p.1 (nodeOf p.2)) plant.nodes,
    sections := plant.sections.setIfInBounds 2 { defaultSection with
      enabled := true, outlet := 20, valve := 23, fans := [21, 22], band := 800, nominalMargin := 300,
      transientMargin := 600, riseLimit := 50, valveMin := 150, transientWindow := 4 } },
  loop := { ready.loop with ceiling := 400 },
  sections := ready.sections.setIfInBounds 2 { SectionState.powerOn with
    ceiling := 200, fanCeiling := 200, valveFloor := 800, sight := .seen, flow := .opened } }

/-- TABLE 2-5: M = 300, H = 250, R = 312, C = 250, E = 250, V = 750, no FROST_STOP. -/
theorem test_table_2_5 :
    let x := (handArrival 20 (-2850) sectionTwo).sec 2
    x.ceiling = 250 ∧ x.fanCeiling = 250 ∧ x.valveFloor = 750 ∧ x.sight = .seen
      ∧ (handArrival 20 (-2850) sectionTwo).flag .frostStop = false := by
  decide +kernel

/-- TABLE 2-8, the outlet arrival: with the transient window running C falls to 0, FROST_STOP is raised, and the fans
and then the valve are posted. -/
theorem test_table_2_8 :
    let x := { (sectionTwo.sec 2) with ceiling := 250, fanCeiling := 250, valveFloor := 750, transient := 3 }
    let sent (v : Nat) : NodeState := { NodeState.powerOn with lastSent := some v }
    let t := handArrival 20 (-2840)
      ((((sectionTwo.setSec 2 x).setNode 21 (sent 250)).setNode 22 (sent 250)).setNode 23 (sent 750))
    (t.sec 2).ceiling = 0 ∧ (t.sec 2).valveFloor = 1000 ∧ (t.sec 2).transient = 3 ∧ t.flag .frostStop = true
      ∧ t.arb.frost = [21, 22, 23] := by
  decide +kernel

/-- TABLE 2-6 and 2.6.3: L falls from 420 to 400 and then rises to 420. -/
theorem test_table_2_6 :
    let c := { defaultLoop with supplyFloor := 1000, band := 500, riseLimit := 20 }
    newLoopCeiling c 420 1200 = 400 ∧ newLoopCeiling c 400 1300 = 420 := by
  decide +kernel

/-- TABLE 3-7: section 1 FLUSHING at balance 7 with its overdue count at 2, in both orders. -/
def sectionOne : State := { ready with
  cfg := { plant with sections := plant.sections.setIfInBounds 1 { defaultSection with enabled := true } },
  sections := ready.sections.setIfInBounds 1 { SectionState.powerOn with
    flow := .flushing, balance := 7, interval := some 1, flushTimer := some 1, overdues := 2 } }

theorem test_table_3_7_interval_first :
    let t := after (.flushTimerExpiry 1) (after (.intervalTimerExpiry 1) sectionOne)
    (t.sec 1).balance = 6 ∧ (t.sec 1).flow = .parked ∧ (t.sec 1).overdues = 3 ∧ t.flag .flushOverdue = true
      ∧ t.arb.flush = [{ sec := 1, kind := .pulseEnd, mandatory := false }] := by
  decide +kernel

theorem test_table_3_7_flush_first :
    let t := after (.intervalTimerExpiry 1) (after (.flushTimerExpiry 1) sectionOne)
    (t.sec 1).balance = 7 ∧ (t.sec 1).flow = .parked ∧ (t.sec 1).overdues = 2 ∧ t.flag .flushOverdue = false := by
  decide +kernel

/-- TABLE 4-6, attempt 3: lane A at a streak of 7 ends with NO_REPLY, goes DOWN with its countdown at 1, and the fourth
attempt is on lane B. -/
theorem test_table_4_6 :
    let f := { attemptIn { slotQuery 12 .drive 3 with alternate := true, retryOn := 4 } 3 .waiting [] with lane := .a }
    let s := flying f { running 4 .exchange with
      xe := { ready.xe with laneA := { LaneState.powerOn with streak := 7 } } }
    let t := after .responseTimerExpiry s
    t.xe.laneA.health = .down ∧ t.xe.laneA.probeCountdown = 1 ∧ t.xe.laneA.noReply = 1 ∧ t.flag .laneDown = true
      ∧ (t.xe.flight.map fun g => (g.attempt, g.lane)) = some (4, .b) := by
  decide +kernel

/-- TABLE 6-3: budgets with a response timeout of 500 µs. -/
theorem test_table_6_3 :
    let pass (op : PassOp) : State := { ready with
      arb := { ready.arb with pass := [{ tag := 0, node := 1, op := op, parameter := 0, value := 0 }] } }
    budget ready .frost = 1100 ∧ budget ready .flush = 1100 ∧ budget (pass .paramRead) .pass = 1060
      ∧ budget (pass .paramWrite) .pass = 1140 ∧ budget ready .probe = 1020 := by
  decide +kernel

/-- 8.8.2: the gap timer expires behind a damaged frame and the whole TABLE_READ that arrived inside it: one gap error,
and the TABLE_READ with TAG 6 is answered. -/
theorem test_table_8_3 :
    let damaged : List Byte := [0xD3, 0x4B, 0x44, 0x13, 0x05, 0x04, 0xAA, 0xBB]
    let s : State := { ready with lu := { ready.lu with
      rx := { state := .body, held := damaged ++ linkFrame kindTableRead 6 [6, 1, 2], gap := 0 } } }
    let t := after .gapTimerExpiry s
    t.lu.counters.gapError = 1 ∧ t.lu.counters.valid = 1 ∧ t.lu.rx.state = .hunt
      ∧ t.lu.tx.map (·.octets) = some (linkFrame 0x20 6 [0x12, 0, 6, 1, 2, 0, 0, 0, 0]) := by
  decide +kernel

/-- TABLE 10-3: BLIND raised, its map entry written as none, and both flags acknowledged. -/
theorem test_table_10_3 :
    let lines (s : State) := (s.eu.al0, s.eu.al1, s.eu.al2)
    let s0 := raise .nodeSilent (.node 1) 0 { ready with eu := { flags := 0, al0 := false, al1 := false, al2 := false } }
    let s1 := raise .blind (.sec 4) 0 s0
    let s2 := after (.tableWriteAlarmMap 0 2 1 [3]) s1
    lines s0 = (false, false, true) ∧ lines s1 = (true, false, true) ∧ lines s2 = (true, false, false)
      ∧ lines (after (.ack 0 6) s2) = (false, false, false) ∧ (after (.ack 0 6) s2).eu.flags = 0 := by
  decide +kernel

/-- The three checks on the octets of "123456789", whose values under the parameters of R72, R159 and R148 are known. -/
theorem test_check_values :
    let digits : List Byte := [0x31, 0x32, 0x33, 0x34, 0x35, 0x36, 0x37, 0x38, 0x39]
    crc8 digits = 0xF4 ∧ crc16 digits = 0x29B1 ∧ crc32 digits = 0xCBF43926 := by
  decide +kernel

/-! ## Small commands, their expected results read from the rules named -/

/-- R174, TABLE 8-6: 1001 is clamped to 1000, the pair for a sensor is ignored, and the answer counts one of each. -/
theorem test_demand :
    let t := after (.demand 7 [(10, 1001), (1, 5)]) ready
    t.demandOf 10 = some 1000 ∧ t.demandOf 1 = none
      ∧ t.lu.tx.map (·.octets) = some (linkFrame 0x20 7 [0x10, 0, 1, 1]) := by
  decide +kernel

/-- R157, TABLE 8-8: with no stored image the part starts on the defaults, and STORE_FAULT with cause BLANK is reported. -/
theorem test_startup_blank :
    let t := after (.startupReadEnd .asHeld) State.reset
    t.store.state = .idle ∧ t.store.image = .blank ∧ t.flag .storeFault = true ∧ t.seq.state = .idle
      ∧ t.lu.reports = [.event { cls := .event .storeFault, subject := .none, time := 0, cycle := 0, detail := 3 }] := by
  decide +kernel

/-- R46, TABLE 8-9: the DRIVE of slot 4 to a fan whose E is 0 carries 0, and the clamp is counted. -/
theorem test_drive_is_clamped :
    let s := { supervised with demand := supervised.demand.setIfInBounds 9 (some 700) }
    let t := after (.start 1 4) s
    t.xe.flight.map (fun f => (f.frame, f.clamped)) = some (commandFrame 10 .drive [0, 0], true)
      ∧ (t.sec 0).clamps = 1 := by
  decide +kernel

/-- R162: the power-on of a RESET FULL is taken at the end of its response. -/
theorem test_reset_full :
    let t := after (.resetFull 3) supervised
    t.mode = .supervised ∧ ¬ t.Starting ∧ (after .transmitFrameEnd t).Starting
      ∧ (after .transmitFrameEnd t).mode = .autonomous := by
  decide +kernel

/-- R144, R147: the loss of the link takes a SUPERVISED part to AUTONOMOUS, LINK_LOST first and then MODE with cause 1. -/
theorem test_link_loss :
    let t := after .linkTimerExpiry supervised
    t.mode = .autonomous ∧ t.flag .linkLost = true
      ∧ t.lu.reports = [.event { cls := .event .linkLost, subject := .none, time := 0, cycle := 0, detail := 0 },
          .event { cls := .info .mode, subject := .mode .autonomous, time := 0, cycle := 0, detail := 1 }] := by
  decide +kernel

/-- R166, TABLE 8-7: a FILL frame of the state at rest: AUTONOMOUS, IDLE, the store IDLE, no report, no flag. -/
theorem test_fill :
    (after .fillTimerExpiry { ready with plantTime := 0x01020304 }).lu.tx.map (·.octets)
      = some (linkFrame 0x23 0 [1, 2, 3, 4, 0, 0, 1, 0, 1, 0, 0, 0]) := by
  decide +kernel

/-- R104, R105: a RETURN with an empty return pointer halts with EMPTY_RETURN; R119: with one held, the walk goes there. -/
theorem test_return :
    let called := { running 9 .gapWait with seq := { (running 9 .gapWait).seq with ret := some 2 } }
    (after .waitTimerExpiry (running 9 .gapWait)).seq.haltCause = .emptyReturn
      ∧ (after .waitTimerExpiry called).seq.current = 2 ∧ (after .waitTimerExpiry called).seq.ret = none := by
  decide +kernel

/-- R83, R85: a DOWN lane with its countdown at 1 posts its probe at the next mark. -/
theorem test_lane_probe :
    let s := { running 6 .markWait with xe := { ready.xe with laneA := downLane } }
    let t := after .minorCycleTimerZero s
    t.arb.probe = [.lane .a] ∧ t.xe.laneA.probeCountdown = 20 ∧ t.seq.cycle = 1 := by
  decide +kernel

/-! ## States and operands that meet the hypotheses of each obligation -/

theorem witness_StepRunsTheFrontCommand :
    { ready with pending := [.plantTimeTick, .stop 0] }.pending = .plantTimeTick :: [.stop 0] := rfl

theorem witness_EmptyQueueLetsTimePass :
    ready.pending = [] ∧ AtRest ready ∧ waitingWindow.pending = [] ∧ AtRest waitingWindow := by
  decide +kernel

/-- A stored image of the plant, and one whose check value is off by one. -/
def goodImage : StoredImage := imageOf plant
def badImage : StoredImage := { tables := plant, check := crc32 (tablesOctets plant) + 1 }

theorem image_checks (t : ConfigTables) : (imageOf t).check = crc32 (tablesOctets (imageOf t).tables) := rfl

theorem off_by_one (x : BitVec 32) : x + 1 ≠ x := by bv_omega

theorem good_image_checks : goodImage.check = crc32 (tablesOctets goodImage.tables) := by
  unfold goodImage; exact image_checks plant

theorem bad_image_differs : badImage.check ≠ crc32 (tablesOctets badImage.tables) := by
  unfold badImage; exact off_by_one _

theorem bad_image_invalid : imageChecks badImage = false := imageChecks_eq_false bad_image_differs

/-- A medium that holds what no check accepts holds no valid image. -/
theorem bad_held : holdsValid (some badImage) = false := (holdsValid_some _).trans bad_image_invalid

theorem reset_quiet (st : Option StoredImage) : StartingQuiet { State.reset with
    store := { state := .reading, image := .blank, stored := st, copy := none } } :=
  fun _ => ⟨rfl, rfl, rfl, rfl, rfl, rfl, rfl, rfl⟩

theorem witness_StartupFromValidImage :
    let s : State := { State.reset with
      store := { state := .reading, image := .blank, stored := some goodImage, copy := none } }
    s.Starting ∧ StartingQuiet s ∧ readBack s.store.stored .asHeld = some goodImage
      ∧ goodImage.check = crc32 (tablesOctets goodImage.tables) ∧ plant.sections[0].enabled = true
      ∧ (plant.cycle[0]).kind = .gap :=
  ⟨rfl, reset_quiet _, rfl, good_image_checks, by decide +kernel, by decide +kernel⟩

theorem save_store_sound : StoreSound (about (.save 0)) := by unfold StoreSound; decide +kernel

theorem witness_StartupOnDefaults :
    let damaged : State := { State.reset with
      store := { state := .reading, image := .blank, stored := some badImage, copy := none } }
    (State.reset.Starting ∧ StartingQuiet State.reset ∧ State.reset.lu.reports.length < 64
      ∧ readBack State.reset.store.stored (.altered badImage) = some badImage
      ∧ badImage.check ≠ crc32 (tablesOctets badImage.tables)
      ∧ readBack State.reset.store.stored .asHeld = none ∧ holdsValid State.reset.store.stored = false)
      ∧ (damaged.Starting ∧ StartingQuiet damaged ∧ holdsValid damaged.store.stored = false)
      ∧ holdsValid ({ ready with store := { ready.store with stored := some goodImage } }).store.stored = true
      ∧ StoreSound (about (.save 0)) ∧ (step (about (.save 0)) matches .next _) :=
  ⟨⟨rfl, reset_quiet _, by decide +kernel, readBack_altered_invalid _ bad_image_invalid, bad_image_differs, rfl, rfl⟩,
    ⟨rfl, reset_quiet _, bad_held⟩, holdsValid_imageOf plant, save_store_sound,
    by decide +kernel⟩

/-- `ready` with the store in a state. -/
def storing (st : StoreState) (copy : Option ConfigTables) : State :=
  { ready with store := { state := st, image := .blank, stored := none, copy := copy } }

theorem witness_SaveByStoreState :
    (∀ st ∈ [StoreState.idle, .writing, .reading],
      let s := storing st none
      s.lu.link = .up ∧ s.lu.responses.length < 4 ∧ Settled s ∧ s.store.state = st)
      ∧ (after (.save 0) ready).store.state = .writing ∧ (after (.save 0) ready).store.stored = none := by
  decide +kernel

theorem witness_StoreWriteEnd :
    let s := reporting (List.replicate 62 aSample) (storing .writing (some plant))
    Settled s ∧ RoomForReports s 2 ∧ s.store.state = .writing ∧ s.store.copy = some plant
      ∧ readBack (some (imageOf plant)) .asHeld = some goodImage
      ∧ goodImage.check = crc32 (tablesOctets goodImage.tables)
      ∧ readBack (some (imageOf plant)) (.altered badImage) = some badImage
      ∧ badImage.check ≠ crc32 (tablesOctets badImage.tables)
      ∧ readBack (some (imageOf plant)) .absent = none ∧ ready.store.state ≠ .writing :=
  ⟨by decide +kernel, by decide +kernel, rfl, rfl, rfl, good_image_checks,
    readBack_altered_invalid _ bad_image_invalid, bad_image_differs, rfl, by decide +kernel⟩

theorem witness_FrameOctetsRunTheRequest :
    (Instr.demand 9 [(10, 500)]).wf = true
      ∧ requestFrame (.demand 9 [(10, 500)]) = some [0xD3, 0x4B, 5, 0x10, 9, 10, 1, 0xF4, 0xE1, 0x57]
      ∧ ready.lu.rx.state = .hunt := by
  decide +kernel

/-- `ready` with the receiver in a state, octets held. -/
def hearing (st : RxState) (held : List Byte) : State :=
  { ready with lu := { ready.lu with rx := { state := st, held := held, gap := 5000 } } }

theorem witness_ReceiverStates :
    ready.lu.rx.state = .hunt ∧ (hearing .header [0xD3]).lu.rx.held = [0xD3]
      ∧ (hearing .header [0xD3, 0x4B]).lu.rx.state = .header ∧ (∀ b ∈ ([2, 240] : List Byte), 2 ≤ b.toNat ∧ b.toNat ≤ 240)
      ∧ (hearing .body [0xD3, 0x4B, 2, 0x13]).lu.rx.held = 0xD3 :: 0x4B :: 2 :: [0x13]
      ∧ [(0x13 : Byte), 0, 0].length ≤ 3 ∧ [(0x13 : Byte)].length + 1 < (2 : Byte).toNat + 2 := by
  decide +kernel

/-- The frame of a STOP with tag 5, and a candidate that waits for its LEN. -/
def stopFrame : List Byte := linkFrame kindCommand 5 [2]
def openHeader : Receiver := { state := .header, held := [0xD3, 0x4B], gap := 5000 }

theorem witness_AbandonedFrames :
    (∀ b ∈ ([0, 1, 241, 255] : List Byte), b.toNat < 2 ∨ 240 < b.toNat)
      ∧ (hearing .header [0xD3, 0x4B]).lu.rx.held = [0xD3, 0x4B] ∧ ready.lu.rx.state = .hunt
      ∧ (hearing .body [0xD3, 0x4B, 9, 1]).lu.rx.state ≠ .hunt
      ∧ (∀ x ∈ (hearing .body [0xD3, 0x4B, 9, 1]).lu.rx.held.drop 1, x ≠ 0xD3)
      ∧ (hearing .body [0xD3, 0x4B, 9, 0xD3]).lu.rx.state ≠ .hunt := by
  decide +kernel

/-- A whole frame of LEN 2, 6 and 4 with a wrong CRC: nothing begins in it, the STOP ends it, a candidate is left open. -/
theorem witness_AbandonedFrames_crc :
    ([0xD3, 0x4B, 2, 0x13, 0, 0] ++ [1] : List Byte) = 0xD3 :: 0x4B :: 2 :: ([0x13, 0] ++ [0, 1])
      ∧ crc16 [2, 0x13, 0] ≠ (0x00 : Byte) ++ (0x01 : Byte) ∧ (∀ x ∈ ([2, 0x13, 0, 0, 1] : List Byte), x ≠ 0xD3)
      ∧ (Instr.stop 5).wf = true ∧ requestFrame (.stop 5) = some stopFrame ∧ stopFrame.length = 8
      ∧ stopFrame = stopFrame.take 6 ++ [stopFrame[6]!, stopFrame[7]!]
      ∧ crc16 ([6] ++ stopFrame.take 6) ≠ stopFrame[6]! ++ stopFrame[7]! ∧ (∀ x ∈ ([6] : List Byte), x ≠ 0xD3)
      ∧ crc16 [4, 1, 2, 3, 4] ≠ (0xD3 : Byte) ++ (0x4B : Byte)
      ∧ ([4, 1, 2, 3, 4, 0xD3, 0x4B] : List Byte) = [4, 1, 2, 3, 4] ++ openHeader.held
      ∧ (∀ x ∈ ([4, 1, 2, 3, 4] : List Byte), x ≠ 0xD3) := by
  decide +kernel

/-- A frame begun that holds the STOP, and one that holds a candidate left open. -/
theorem witness_AbandonedFrames_rescan :
    ((hearing .body ([0xD3, 0x4B, 20] ++ stopFrame)).lu.rx.held.drop 1 = [0x4B, 20] ++ stopFrame
        ∧ (hearing .body ([0xD3, 0x4B, 20] ++ openHeader.held)).lu.rx.held.drop 1 = [0x4B, 20] ++ openHeader.held
        ∧ (∀ x ∈ ([0x4B, 20] : List Byte), x ≠ 0xD3) ∧ openHeader.state ≠ .hunt ∧ openHeader.gap = 5000
        ∧ (∀ x ∈ openHeader.held.drop 1, x ≠ 0xD3))
      ∧ openHeader.sound ∧ ReceiverSound { about (.receiverOctet 0x4B false) with lu := (hearing .header [0xD3]).lu }
      ∧ (step { about (.receiverOctet 0x4B false) with lu := (hearing .header [0xD3]).lu } matches .next _) :=
  ⟨by decide +kernel, .inr rfl, .inl rfl, by decide +kernel⟩

theorem witness_StartingAnswersNotNow :
    let s := storing .reading none
    requestFrame (.stop 5) = some (linkFrame kindCommand 5 [2]) ∧ s.Starting ∧ s.lu.link = .up
      ∧ s.lu.responses.length < 4 ∧ Settled s
      ∧ requestFrame (.tableRead 5 1 2 3) = some (linkFrame kindTableRead 5 [1, 2, 3])
      ∧ requestFrame (.tableWriteHold 5 1 0 []) = some (linkFrame kindTableWrite 5 [6, 1, 0])
      ∧ requestFrame (.demand 5 []) = some (linkFrame kindDemand 5 []) := by
  decide +kernel

/-- `ready` with `n` responses waiting behind a frame in transmission. -/
def answering (n : Nat) : State :=
  { ready with lu := { ready.lu with responses := List.replicate n aResponse,
                                     tx := some { octets := [], powerOn := false }, fillTimer := none } }

theorem witness_FullResponseQueueDiscards :
    requestFrame (.resetFull 1) ≠ none ∧ (answering 4).lu.link = .up ∧ 4 ≤ (answering 4).lu.responses.length
      ∧ Settled (answering 4) := by
  decide +kernel

/-- `ready` on a LOST link. -/
def lostLink : State := { ready with lu := { ready.lu with link := .lost, linkTimer := none } }

theorem witness_LostLinkComesUp :
    requestFrame (.resume 1) ≠ none ∧ lostLink.lu.link = .lost
      ∧ RoomForReports (reporting (List.replicate 63 aSample) lostLink) 1 := by
  decide +kernel

theorem witness_LinkTimerExpiry :
    supervised.lu.linkTimer = some 3000000 ∧ RoomForReports (reporting (List.replicate 62 aSample) supervised) 2
      ∧ Settled supervised ∧ (supervised.cfg.linkSet.autoHold = .on ∧ supervised.mode = .supervised)
      ∧ ¬ (ready.cfg.linkSet.autoHold = .on ∧ ready.mode = .supervised) := by
  decide +kernel

theorem witness_FillTimerExpiry :
    ready.lu.fillTimer = some 250000 ∧ Settled ready ∧ ready.lu.tx = none
      ∧ { (answering 0).lu with fillTimer := some 1 }.tx ≠ none := by
  decide +kernel

/-- `ready` sending a frame, with a stream, a report queue and responses. -/
def sending (powerOn : Bool) (st : Machine.Stream) (rs : List Report) (as : List Response) : State :=
  { ready with lu := { ready.lu with tx := some { octets := [], powerOn := powerOn }, stream := st, reports := rs,
                                     responses := as } }

theorem witness_TransmitFrameEnd :
    (∀ s ∈ [sending false .send [aSample] [aResponse], sending false .send [aSample] [], sending false .hold [aSample] [],
        sending false .send [] []], s.lu.tx = some { octets := [], powerOn := false } ∧ Settled s)
      ∧ (sending false .send [aSample] [aResponse]).lu.responses = aResponse :: []
      ∧ (sending false .send [aSample] []).lu.reports = aSample :: []
      ∧ (sending false .hold [aSample] []).lu.stream ≠ .send ∧ (sending false .send [] []).lu.reports = []
      ∧ (sending true .hold [] []).lu.tx = some { octets := [], powerOn := true } := by
  decide +kernel

theorem witness_ReportQueueing :
    (sending false .off [] []).lu.stream = .off
      ∧ (reporting (List.replicate 63 aSample) ready).lu.reports.length < 64
      ∧ 64 ≤ (reporting (List.replicate 64 anEvent) ready).lu.reports.length ∧ aSample.isSample = true
      ∧ anEvent.isSample = false
      ∧ (∀ y ∈ List.replicate 64 anEvent, y.isSample = false)
      ∧ 64 ≤ ([anEvent] ++ aSample :: List.replicate 62 aSample).length
      ∧ (∀ y ∈ [anEvent], y.isSample = false) := by
  decide +kernel

theorem witness_Ready : Ready ready ∧ Ready (answering 3) ∧ Ready supervised ∧ Ready waitingWindow := by
  decide +kernel

theorem witness_ReportStreamCommands : Ready ready ∧ 2 < (3 : Byte).toNat ∧ 2 < (255 : Byte).toNat := by decide +kernel

theorem witness_ResetLinkAndFull :
    let full (p : Bool) : State :=
      { answering 1 with lu := { (answering 1).lu with responses := [{ aResponse with powerOn := p }] } }
    Ready (full false) ∧ (∀ r ∈ (full false).lu.responses, r.powerOn = false)
      ∧ Ready (full true) ∧ (∃ r ∈ (full true).lu.responses, r.powerOn = true) := by
  decide +kernel

theorem witness_HoldAndResume :
    ∀ st ∈ [StoreState.idle, .writing, .reading], ∀ m ∈ [Mode.supervised, .autonomous],
      let s := { storing st none with mode := m }
      s.lu.link = .up ∧ s.lu.responses.length < 4 ∧ Settled s ∧ s.mode = m ∧ s.store.state = st := by
  decide +kernel

theorem witness_AckClearsFlags :
    Ready ready ∧ (4095 : Word).toNat < 4096 ∧ 4096 ≤ (4096 : Word).toNat := by
  decide +kernel

theorem witness_DemandApplied :
    Ready ready ∧ (List.replicate 1 ((10 : Byte), (1001 : Word))) ≠ []
      ∧ (List.replicate 40 ((10 : Byte), (0 : Word))).length ≤ 40
      ∧ 40 < (List.replicate 41 ((10 : Byte), (0 : Word))).length := by
  decide +kernel

theorem witness_TableRead :
    Ready ready ∧ (readRules 0).isNone ∧ (readRules 13).isNone ∧ (readRules 12).isSome
      ∧ (readRules 2).map (fun r => (r.first, r.last)) = some (1, 48) := by
  decide +kernel

theorem witness_EntriesReadBackAsWritten :
    (slotOfEntry slotEntry).isSome ∧ (nodeOfEntry nodeEntry).isSome ∧ (sectionOfEntry sectionEntry).isSome
      ∧ (∀ b ∈ sectionEntry.fans.toList.drop sectionEntry.fanCount.toNat, b = 0)
      ∧ (loopOfEntry loopEntry).isSome ∧ (∀ b ∈ loopEntry.pumps.toList.drop loopEntry.pumpCount.toNat, b = 0)
      ∧ valueOf alarmLines 3 = some .none ∧ (linkSetOfEntry linkSetEntry).isSome := by
  decide +kernel

theorem witness_TableWriteRefusals :
    let frame (id first count : Byte) (os : List Byte) := some (linkFrame kindTableWrite 0 (id :: first :: count :: os))
    Ready ready ∧ Ready (storing .writing none) ∧ (storing .writing none).store.state = .writing
      ∧ requestFrame (.tableWriteHold 0 0 0 []) = frame 6 0 0 []
      ∧ requestFrame (.tableWriteHold 0 49 1 [5]) = frame 6 49 1 [0, 5]
      ∧ requestFrame (.tableWriteHold 0 0 1 [5]) = frame 6 0 1 [0, 5]
      ∧ requestFrame (.tableWriteHold 0 48 2 [5]) = frame 6 48 2 [0, 5]
      ∧ requestFrame (.tableWriteHold 0 48 1 [5]) = frame 6 48 1 [0, 5]
      ∧ (readRules 6).map (fun r => (r.first, r.last, r.len)) = some (1, 48, 2) := by
  decide +kernel

/-- A HOLD write whose second entry lies beyond the table: one entry is written. -/
theorem witness_WriteStopsAtFirstRefusal :
    holdRules.last = 48 ∧ (writeEntries holdRules [0, 0] 48 0 ready).written = 1
      ∧ (writeEntries holdRules [0, 0] 48 0 ready).code = .badIndex ∧ (storing .writing none).store.state = .writing
      ∧ cycleRules.walkGuard = true ∧ (running 0 .gapWait).seq.state = .running
      ∧ (stopping (running 2 .exchange)).seq.state = .stopping := by
  decide +kernel

theorem witness_TableWritesApplyInOrder :
    Ready ready ∧ PostsWait ready ∧ (2 : Byte) ≠ 0 ∧ [slotEntry, slotEntry].length = (2 : Byte).toNat := by
  decide +kernel

theorem witness_CycleEntryWritten :
    let bad : List SlotEntry := [{ slotEntry with kind := 11 }, { slotEntry with kind := 0, time := 0 },
      { slotEntry with time := 0 }, { slotEntry with kind := 1, node := 0 }, { slotEntry with kind := 1, node := 49 },
      { slotEntry with kind := 2, node := 1, frame := 2 }, { slotEntry with kind := 3, node := 1, lane := 2 },
      { slotEntry with kind := 1, node := 1, retries := 4 }, { slotEntry with kind := 1, node := 1, alternate := 2 }]
    ready.store.state ≠ .writing ∧ (∀ e ∈ bad, judgeEntry cycleRules 255 e ready matches .inl .badValue)
      ∧ (judgeEntry cycleRules 255 { slotEntry with kind := 1, node := 48, frame := 1, lane := 1, retries := 3,
                                                    alternate := 1 } ready matches .inr _)
      ∧ ready.seq.state = .idle ∧ (running 0 .gapWait).seq.state = .running := by
  decide +kernel

theorem witness_NodeEntryWritten :
    let bad : List NodeEntry := [{ nodeEntry with kind := 5 }, { nodeEntry with lane := 2 }, { nodeEntry with report := 2 },
      { nodeEntry with high := 0, low := 1 }, { nodeEntry with silence := 0 }, { nodeEntry with silence := 16 }]
    ready.store.state ≠ .writing ∧ (∀ e ∈ bad, nodeOfEntry e = none) ∧ (nodeOfEntry nodeEntry).isSome
      ∧ ready.kindOf 1 = .sensor ∧ ready.kindOf 48 = .none ∧ hasRole ready 48 = false
      ∧ ready.kindOf 10 ≠ .sensor ∧ hasRole ready 10 = true := by
  decide +kernel

theorem witness_SectionEntryWritten :
    let on : SectionEntry := { sectionEntry with enabled := 0 }
    let off : SectionEntry := { sectionEntry with enabled := 1 }
    ready.store.state ≠ .writing ∧ PostsWait ready ∧ RoomForReports ready 1
      ∧ (sectionOfEntry on).map (·.enabled) = some true ∧ (sectionOfEntry off).map (·.enabled) = some false
      ∧ (sectionOfEntry on).map (sectionRolesOk ready 0) = some true
      ∧ (sectionOfEntry on).map (sectionRolesOk ready 7) = some false := by
  decide +kernel

theorem witness_LoopEntryWritten :
    ready.store.state ≠ .writing ∧ PostsWait ready ∧ RoomForReports ready 1
      ∧ (loopOfEntry loopEntry).map (loopRolesOk ready) = some true
      ∧ (loopOfEntry { loopEntry with supply := 0 }).map (loopRolesOk ready) = some true
      ∧ (loopOfEntry { loopEntry with supply := 1 }).map (loopRolesOk ready) = some false := by
  decide +kernel

theorem witness_PlainTableEntries :
    ready.store.state ≠ .writing ∧ isActuator (ready.kindOf 10) = true ∧ isActuator (ready.kindOf 48) = false
      ∧ (1000 : Word).toNat ≤ 1000 ∧ 1000 < (1001 : Word).toNat ∧ (1001 : Word) ≠ 0xFFFF
      ∧ [AlarmLine.al0, .al1, .al2, .none][(3 : Byte).toNat]? = some .none ∧ 3 < (4 : Byte).toNat
      ∧ (linkSetOfEntry linkSetEntry).isSome
      ∧ (∀ e ∈ ([{ linkSetEntry with responseTimeout := 9 }, { linkSetEntry with probeInterval := 0 },
          { linkSetEntry with frostLevel := 2 }, { linkSetEntry with autoHold := 2 },
          { linkSetEntry with linkTimeout := 0 }, { linkSetEntry with fillInterval := 0 }] : List LinkSetEntry),
          linkSetOfEntry e = none) := by
  decide +kernel

/-- `ready` with `n` PASS requests queued. -/
def passing (n : Nat) : State := { ready with arb := { ready.arb with
  pass := List.replicate n { tag := 0, node := 1, op := .paramRead, parameter := 0, value := 0 } } }

theorem witness_PassRequests :
    Ready ready ∧ 1 < (2 : Byte).toNat ∧ ready.kindOf 48 = .none ∧ ready.kindOf 1 ≠ .none
      ∧ ((withNode 1 silentNode ready).node 1).health = .silent ∧ (ready.node 1).health = .active
      ∧ 8 ≤ (passing 8).arb.pass.length ∧ (passing 7).arb.pass.length < 8 ∧ PostsWait ready
      ∧ (∀ a ∈ ([0, 49] : List Byte), a.toNat = 0 ∨ 48 < a.toNat) := by
  decide +kernel

theorem witness_PassIntoWaitingWindow :
    let s := waitingWindow
    let late : State := { s with seq := { s.seq with timerLeft := 1059 } }
    Ready s ∧ Ready late ∧ s.arb.window.isOpen = true ∧ s.arb.window.kind = .runToEnd ∧ s.arb.window.inFlight = none
      ∧ s.arb.window.stopping = false ∧ s.arb.frost = [] ∧ s.arb.flush = [] ∧ s.arb.pass = [] ∧ s.arb.probe = []
      ∧ (s.node 1).health = .active ∧ s.kindOf 1 ≠ .none ∧ ¬ s.BothDown ∧ s.seq.timer = .counting
      ∧ (4 + 7) * 40 + 10 * s.cfg.linkSet.responseTimeout + 120 = 1060 ∧ 1060 ≤ s.seq.timerLeft
      ∧ late.seq.timerLeft < 1060 ∧ late.seq.state = .running ∧ (late.slot (nextSlot late.seq.current)).kind = .gap := by
  decide +kernel

theorem witness_StartBySlot :
    Ready ready ∧ Ready (running 0 .gapWait) ∧ Ready (stopping (running 2 .exchange)) ∧ ready.seq.state = .idle
      ∧ (ready.slot 0).kind = .gap ∧ (ready.slot 255).kind = .stop ∧ (ready.slot 10).kind = .ret
      ∧ (ready.slot 11).kind = .exchange ∧ ready.kindOf (ready.slot 11).node.toNat = .none
      ∧ RoomForReports ready 1 ∧ (ready.slot 2).kind = .exchange ∧ (ready.slot 2).frame = 0
      ∧ lanes[(ready.slot 2).lane.toNat]? = some .a ∧ ready.kindOf (ready.slot 2).node.toNat ≠ .none
      ∧ (ready.node (ready.slot 2).node.toNat).health = .active ∧ (ready.lane .a).health = .up := by
  decide +kernel

/-- `ready` with slot 20 of a kind, a target and a time, before the GAP of slot 21; slot 30 is a CALL. -/
def slotted (k : SlotKind) (target : Byte) (time : Word) : State := { ready with cfg := { plant with
  cycle := ((plant.cycle.setIfInBounds 20 { slotOf k 0 0 time with target := target }).setIfInBounds 21
    (slotOf .gap 0 0 1)).setIfInBounds 30 (slotOf .call 0 0 0) } }

/-- The slots that only steer: a NOTE before a GAP, a JUMP to a GAP and to itself, a CALL of a GAP, a RETURN and a CALL,
and a WINDOW that finds every queue empty. -/
theorem witness_StartBySlot_steering :
    (∀ p ∈ [(SlotKind.note, (0 : Byte)), (.jump, 0), (.jump, 20), (.call, 0), (.call, 10), (.call, 30), (.window, 0)],
        let s := slotted p.1 p.2 0
        Ready s ∧ RoomForReports s 1 ∧ s.seq.state = .idle ∧ (s.slot 20).kind = p.1
          ∧ (s.slot 20).target = p.2 ∧ (s.slot (nextSlot 20)).kind = .gap)
      ∧ ((slotted .call 0 0).slot 0).kind = .gap ∧ ((slotted .call 10 0).slot 10).kind = .ret
      ∧ ((slotted .call 30 0).slot 30).kind = .call ∧ NothingQueued (slotted .window 0 0) := by
  decide +kernel

/-- `ready` with section 0 FLUSHING. -/
def flushing : State := ready.setSec 0 { SectionState.powerOn with
  flow := .flushing, interval := some 900000, flushTimer := some 90000 }

/-- A WINDOW of 1100 µs, and one of 1000 µs, with queues. -/
def windowed (time : Word) (frost : List Nat) (flush : List FlushRequest) (probe : List ProbeTarget) : State :=
  { slotted .window 0 time with arb := { ready.arb with frost := frost, flush := flush, probe := probe } }

/-- The heads a fixed WINDOW finds: a fan, with time for it and without; a START and an END that pass; a START of a
section not enabled, one of a section whose valve is SILENT, and an END while the pulse runs, all skipped; a node's
probe; and a lane's, with no last good node. -/
theorem witness_StartBySlot_window :
    let start (i : Nat) : FlushRequest := { sec := i, kind := .pulseStart, mandatory := true }
    let ends : FlushRequest := { sec := 0, kind := .pulseEnd, mandatory := false }
    let fits (s : State) (octets : Nat) : Prop :=
      (octets + 7) * 40 + 10 * s.cfg.linkSet.responseTimeout + 120 ≤ 100 * (s.slot 20).time.toNat
    (∀ s ∈ [windowed 11 [10] [] [], windowed 10 [10] [] [], windowed 11 [] [start 0] [], windowed 11 [] [ends] [],
        windowed 11 [] [start 7] [], withNode 12 silentNode (windowed 11 [] [start 0] []), windowed 11 [] [] [.node 1],
        windowed 11 [] [] [.lane .b]],
      Ready s ∧ RoomForReports s 1 ∧ s.seq.state = .idle ∧ (s.slot 20).kind = .window ∧ (s.slot 20).time ≠ 0
        ∧ ¬ s.BothDown ∧ s.arb.pass = [] ∧ (s.slot (nextSlot 20)).kind = .gap)
      ∧ (6 + 5) * 40 + 10 * (windowed 11 [10] [] []).cfg.linkSet.responseTimeout + 120 = 1060
      ∧ fits (windowed 11 [10] [] []) 5 ∧ ¬ fits (windowed 10 [10] [] []) 5 ∧ fits (windowed 11 [] [] [.node 1]) 3
      ∧ isActuator (ready.kindOf 10) = true ∧ (ready.node 10).health = .active
      ∧ (ready.secCfg 0).enabled = true ∧ (ready.secCfg 0).valve = 12 ∧ isActuator (ready.kindOf 12) = true
      ∧ (ready.node 12).health = .active ∧ (ready.sec 0).flow ≠ .flushing ∧ (flushing.sec 0).flow = .flushing
      ∧ (ready.secCfg 7).enabled = false ∧ ready.kindOf 1 ≠ .none ∧ ready.xe.lastGood = 0
      ∧ (∀ k, k < 1 → ready.kindOf k = .none) := by
  decide +kernel

theorem witness_StopWhileRunning :
    let granted : State := { waitingWindow with arb := { waitingWindow.arb with
      window := { waitingWindow.arb.window with inFlight := some .pass } } }
    ∀ s ∈ [running 2 .exchange, granted, waitingWindow, running 6 .markWait, running 0 .gapWait],
      Ready s ∧ s.seq.state = .running := by
  decide +kernel

/-- `ready` HALTED at slot 11. -/
def halted : State := { ready with
  seq := { ready.seq with state := .halted, current := 11, haltCause := .badSlot, haltSlot := 11 } }

theorem halted_rests : WalkRests halted := by
  unfold WalkRests SeqState.resting; decide +kernel

theorem witness_StopOutsideRunning :
    WalkRests halted ∧ Ready halted ∧ halted.seq.state ≠ .running ∧ Ready (stopping (running 2 .exchange))
      ∧ halted.seq.state = .halted ∧ ¬ halted.Starting ∧ ReceiverSound halted
      ∧ (exec .plantTimeTick halted matches .next _) :=
  ⟨halted_rests, by decide +kernel, by decide +kernel, by decide +kernel, rfl, by decide +kernel, rfl,
    by decide +kernel⟩

theorem witness_Revive :
    let s : State := { withNode 1 silentNode ready with xe := { ready.xe with laneA := downLane } }
    Ready s ∧ RoomForReports s 1 ∧ s.kindOf 48 = .none ∧ s.kindOf 10 ≠ .none ∧ (s.node 10).health = .active
      ∧ s.kindOf 1 ≠ .none ∧ (s.node 1).health = .silent ∧ PostsWait s ∧ 1 < (2 : Byte).toNat
      ∧ lanes[(0 : Byte).toNat]? = some .a ∧ (s.lane .a).health = .down ∧ lanes[(1 : Byte).toNat]? = some .b
      ∧ (s.lane .b).health = .up := by
  decide +kernel

theorem witness_FlushCommand :
    let queued : State := { ready with
      arb := { ready.arb with flush := [{ sec := 0, kind := .pulseStart, mandatory := true }] } }
    Ready ready ∧ 7 < (8 : Byte).toNat ∧ (ready.secCfg 7).enabled = false ∧ (ready.secCfg 0).enabled = true
      ∧ Ready queued ∧ queued.arb.flush.any (fun r => decide (r.key = (0, .pulseStart))) = true
      ∧ ready.arb.flush.any (fun r => decide (r.key = (0, .pulseStart))) = false ∧ PostsWait ready := by
  decide +kernel

theorem witness_FieldReset :
    let s : State := { flushing with seq := (running 2 .exchange).seq }
    Ready s ∧ s.seq.state = .running ∧ (s.slot 0).kind = .gap ∧ (s.sec 0).flow = .flushing ∧ (s.sec 7).flow ≠ .flushing
      ∧ Ready (flying (attemptIn (slotQuery 1 .poll 0) 1 .waiting []) s) ∧ Ready halted := by
  decide +kernel

/-- An attempt of the POLL of slot 2 in a phase, the walk RUNNING at that slot. -/
def polling (n : Nat) (p : Phase) (octets : List Byte) : State :=
  flying (attemptIn (slotQuery 1 .poll 1) n p octets) (running 2 .exchange)

theorem witness_AttemptProgress :
    (∀ p ∈ [Phase.idle, .sending, .waiting, .receiving], AtRest (polling 1 p []))
      ∧ (replyOctets 1 1 0 0).dropLast.length ≠ 6 ∧ AtRest (polling 1 .receiving (replyOctets 1 1 0 0).dropLast)
      ∧ AtRest ready ∧ ready.xe.flight = none := by
  decide +kernel

/-- The ways of R75, each with the attempt it ends. -/
theorem attempt_fails_each_way :
    AttemptFails (attemptIn (slotQuery 1 .poll 1) 1 .waiting []) .responseTimerExpiry .noReply
      ∧ AttemptFails (attemptIn (slotQuery 1 .poll 1) 1 .receiving [1]) .replyGapExpiry .badFrame
      ∧ AttemptFails (attemptIn (slotQuery 1 .poll 1) 1 .receiving [1]) .replyWindowExpiry .badFrame
      ∧ AttemptFails (attemptIn (slotQuery 1 .poll 1) 1 .waiting []) (.replyOctet .a 1 true) .badFrame
      ∧ AttemptFails (attemptIn (slotQuery 1 .poll 1) 1 .receiving (replyOctets 2 1 0 0))
          (.replyOctet .a (crc8 (replyOctets 2 1 0 0)) false) .wrongNode :=
  ⟨.inl ⟨rfl, rfl, rfl⟩, .inr (.inl ⟨.inl rfl, rfl, rfl⟩), .inr (.inl ⟨.inr rfl, rfl, rfl⟩),
    .inr (.inr ⟨.inl rfl, .inl ⟨1, rfl, rfl⟩⟩), .inr (.inr ⟨.inr rfl, .inr ⟨_, rfl, rfl, by decide +kernel⟩⟩)⟩

/-- R80: a busy reply that a slot's retry conditions discard, on a lane that is UP and on one that is DOWN. -/
theorem witness_FailedAttemptRetries_discarded :
    let q : ExchangeRequest := { slotQuery 12 .drive 1 with retryOn := 4 }
    let octets := replyOctets 12 2 1 0
    let s := flying (attemptIn q 1 .receiving octets) (running 4 .exchange)
    let down : State := { s with xe := { s.xe with laneA := downLane } }
    (∀ t ∈ [s, down], t.xe.flight = some (attemptIn q 1 .receiving octets) ∧ Settled t ∧ RoomForReports t 1)
      ∧ octets = [12, 0xA1, 0, 0, 0, 0] ∧ (0xA1 : Byte).getLsbD 7 = true
      ∧ ((0xA1 : Byte).extractLsb' 4 3).setWidth 8 = FrameKind.drive.code
      ∧ 1 ≤ q.retries ∧ q.origin ≠ .laneProbe ∧ ((0xA1 : Byte).getLsbD 0 = true ∧ q.retryOn.getLsbD (0 + 2) = true) := by
  decide +kernel

theorem witness_FailedAttemptRetries :
    let s := polling 1 .waiting []
    let worn : State := { s with xe := { s.xe with laneA := { LaneState.powerOn with streak := 7 } } }
    s.xe.flight = some (attemptIn (slotQuery 1 .poll 1) 1 .waiting []) ∧ (1 : Nat) ≤ (slotQuery 1 .poll 1).retries
      ∧ (slotQuery 1 .poll 1).origin ≠ .laneProbe ∧ Settled s ∧ RoomForReports s 1
      ∧ ¬ (s.setLane .a (laneAfterFailure (s.lane .a) .noReply)).BothDown
      ∧ GoesDown (worn.lane .a) ∧ ¬ (worn.setLane .a (laneAfterFailure (worn.lane .a) .noReply)).BothDown := by
  decide +kernel

/-- The conditions of a result with nothing but TRANSFER_FAIL, and with nothing at all. -/
def failedOnly : Conditions :=
  { transferFail := true, skipped := false, busy := false, fault := false, localCtl := false, ice := false,
    range := false, clamped := false }
def clean : Conditions := { failedOnly with transferFail := false }

/-- How an end is told rests on the walk, the cycle table, the window and the queues alone. -/
theorem EndsTold.of_same {o : Origin} {s t : State} {c : Conditions} (hseq : t.seq = s.seq) (hcfg : t.cfg = s.cfg)
    (harb : t.arb = s.arb) (h : EndsTold o s c) : EndsTold o t c := by
  cases s; cases t; cases hseq; cases hcfg; cases harb; exact h

theorem witness_FailedExchangeEnds :
    let s := polling 2 .waiting []
    let tired := withNode 1 { NodeState.powerOn with streak := 2 } s
    let dead : State := { s with xe := { s.xe with laneB := downLane, laneA := { LaneState.powerOn with streak := 7 } } }
    (s.xe.flight = some (attemptIn (slotQuery 1 .poll 1) 2 .waiting []) ∧ (slotQuery 1 .poll 1).retries < 2
      ∧ (slotQuery 1 .poll 1).origin = .slot ∧ 1 ≤ (slotQuery 1 .poll 1).node ∧ Settled s ∧ RoomForReports s 3
      ∧ (s.nodeCfg 1).silence ≤ (tired.node 1).streak + 1 ∧ (tired.node 1).health = .active
      ∧ (dead.setLane .a (laneAfterFailure (dead.lane .a) .noReply)).BothDown)
      ∧ EndsTold .slot s failedOnly ∧ EndsTold .slot (stopping s) failedOnly := by
  unfold EndsTold EndsInWindow EndsAtGap; decide +kernel

/-- An exchange of an origin in flight in the window at slot 8, the window stopping with the walk STOPPING, or open to
the end of the minor cycle. -/
def inWindow (stop : Bool) (f : Flight) : State :=
  let s := flying f { waitingWindow with arb := { waitingWindow.arb with
    window := { waitingWindow.arb.window with inFlight := some f.request.origin, stopping := stop } } }
  if stop then stopping s else s

/-- The probe of SILENT node 4 and of lane A, a FLUSH START of section 0 and a PASS that fail in their window. -/
theorem witness_FailedExchangeEnds_window :
    ∀ p ∈ [(Origin.nodeProbe, FrameKind.probe, 4), (.laneProbe, .probe, 1), (.flushStart, .drive, 12),
        (.pass, .paramRead, 1)], ∀ stop ∈ [true, false],
      let q : ExchangeRequest := { slotQuery p.2.2 p.2.1 0 with origin := p.1 }
      let s := inWindow stop (attemptIn q 1 .waiting [])
      s.xe.flight = some (attemptIn q 1 .waiting []) ∧ q.retries < 1 ∧ 1 ≤ q.node ∧ Settled s ∧ RoomForReports s 3
        ∧ EndsTold p.1 s failedOnly := by
  unfold EndsTold EndsInWindow EndsAtGap; decide +kernel

theorem witness_ValidReplyEnds :
    let octets := replyOctets 1 1 0 0x0100
    let s := polling 1 .receiving octets
    (s.xe.flight = some (attemptIn (slotQuery 1 .poll 1) 1 .receiving octets) ∧ octets = [1, 0x90, 1, 0, 0, 0]
      ∧ (0x90 : Byte).getLsbD 7 = true ∧ ((0x90 : Byte).extractLsb' 4 3).setWidth 8 = FrameKind.poll.code
      ∧ retryWanted (slotQuery 1 .poll 1) (.ofOctet 0x90) = false ∧ (s.nodeCfg 1).kind ≠ .none
      ∧ (s.node 1).health = .active ∧ Settled s ∧ PostsWait s ∧ RoomForReports s 3)
      ∧ EndsTold .slot s clean ∧ EndsTold .slot (stopping s) clean := by
  unfold EndsTold EndsInWindow EndsAtGap; decide +kernel

/-- The probe of SILENT node 4, whose arrival goes to the loop alone, and a FLUSH START of section 0 (not fresh, so that
nothing is driven), answered in their window. -/
theorem witness_ValidReplyEnds_window :
    ∀ p ∈ [(Origin.nodeProbe, FrameKind.probe, (4 : Byte), (0xD0 : Byte)), (.flushStart, .drive, 12, 0xA1)],
      ∀ stop ∈ [true, false],
      let a := p.2.2.1.toNat
      let q : ExchangeRequest := { slotQuery a p.2.1 0 with origin := p.1 }
      let octets : List Byte := [p.2.2.1, p.2.2.2, 1, 0, 0, 0]
      let s := withNode 4 silentNode (inWindow stop (attemptIn q 1 .receiving octets))
      s.xe.flight = some (attemptIn q 1 .receiving octets) ∧ p.2.2.2.getLsbD 7 = true
        ∧ (p.2.2.2.extractLsb' 4 3).setWidth 8 = p.2.1.code ∧ 1 ≤ a ∧ a ≤ 48 ∧ q.retries < 1
        ∧ (s.nodeCfg a).kind ≠ .none ∧ (s.node 4).health = .silent ∧ Settled s ∧ PostsWait s ∧ RoomForReports s 3
        ∧ EndsTold p.1 s clean := by
  unfold EndsTold EndsInWindow EndsAtGap; decide +kernel

theorem witness_ArrivalHandOff :
    let disabled : State := { ready with cfg := { plant with
      sections := plant.sections.setIfInBounds 0 { plant.sections[0] with enabled := false } } }
    RoomForReports ready 1 ∧ PostsWait ready ∧ ready.outletSection 1 = some 0 ∧ (ready.secCfg 0).enabled = true
      ∧ disabled.outletSection 1 = some 0 ∧ (disabled.secCfg 0).enabled = false
      ∧ (ready.outletSection 2 = none ∧ ready.cfg.loop.supply = 2)
      ∧ (ready.outletSection 4 = none ∧ ready.cfg.loop.supply ≠ 4 ∧ ready.cfg.loop.ambient = 4)
      ∧ (ready.outletSection 3 = none ∧ ready.cfg.loop.ambient ≠ 3 ∧ ready.cfg.loop.ret = 3)
      ∧ (ready.outletSection 48 = none ∧ ready.cfg.loop.ret ≠ 48) := by
  decide +kernel

theorem witness_DriveHandOff :
    PostsWait ready ∧ ready.valveSection 12 = some 0 ∧ ready.fanSection 12 = none ∧ ready.valveSection 10 = none
      ∧ ready.valveSection 13 = none ∧ (ready.secCfg 0).valve = 12 ∧ (ready.secCfg 7).enabled = false
      ∧ (ready.sec 0).flow ≠ .flushing ∧ (flushing.sec 0).flow = .flushing := by
  decide +kernel

theorem witness_DriveSlotClamps :
    Ready supervised ∧ supervised.seq.state = .idle ∧ (supervised.slot 4).kind = .exchange
      ∧ (supervised.slot 4).frame = 1 ∧ lanes[(supervised.slot 4).lane.toNat]? = some .a
      ∧ isActuator (supervised.kindOf (supervised.slot 4).node.toNat) = true
      ∧ (supervised.node 10).health = .active ∧ (supervised.lane .a).health = .up ∧ Ready halted := by
  decide +kernel

theorem witness_PassReplyWhileStopping :
    let octets := replyOctets 1 3 0 0x0100
    let q := { slotQuery 1 .paramRead 0 with origin := .pass }
    let s := flying (attemptIn q 1 .receiving octets) (stopping { waitingWindow with arb := { waitingWindow.arb with
      window := { waitingWindow.arb.window with inFlight := some .pass, stopping := true } } })
    s.xe.flight = some (attemptIn q 1 .receiving octets) ∧ octets = [1, 0xB0, 1, 0, 0, 0]
      ∧ (0xB0 : Byte).getLsbD 7 = true ∧ ((0xB0 : Byte).extractLsb' 4 3).setWidth 8 = FrameKind.paramRead.code
      ∧ retryWanted q (.ofOctet 0xB0) = false ∧ (s.node 1).health = .active ∧ (s.lane .a).health = .up
      ∧ s.seq.state = .stopping ∧ s.arb.window.stopping = true ∧ Settled s ∧ RoomForReports s 1 := by
  decide +kernel

theorem witness_WaitTimerExpiry :
    AtRest ready ∧ ready.seq.activity ≠ .gapWait
      ∧ (∀ p ∈ [(2, SlotKind.gap), (255, .gap), (0, .stop), (5, .mark)],
          let s := running p.1 .gapWait
          AtRest s ∧ s.seq.activity = .gapWait ∧ s.seq.state = .running ∧ (s.slot (nextSlot s.seq.current)).kind = p.2)
      ∧ (running 5 .gapWait).seq.timer = .counting := by
  decide +kernel

theorem witness_MinorCycleTimerZero :
    AtRest ready ∧ ready.seq.timer ≠ .counting ∧ AtRest (running 2 .exchange)
      ∧ (running 2 .exchange).seq.timer = .counting ∧ (running 2 .exchange).arb.window.isOpen = false
      ∧ AtRest waitingWindow ∧ waitingWindow.seq.timer = .counting ∧ waitingWindow.seq.activity ≠ .markWait
      ∧ (waitingWindow.arb.window.isOpen = true ∧ waitingWindow.arb.window.kind = .runToEnd
        ∧ waitingWindow.arb.window.inFlight = none)
      ∧ waitingWindow.seq.state = .running
      ∧ (waitingWindow.slot (nextSlot waitingWindow.seq.current)).kind = .gap := by
  decide +kernel

/-- `ready` with a SILENT outlet, a DOWN lane, and section 0 seen with C at 500, at the mark's turn of their countdowns. -/
def aging (q : Sequencer) : State := { withNode 1 silentNode ready with
  seq := q, xe := { ready.xe with laneB := downLane },
  sections := ready.sections.setIfInBounds 0 { SectionState.powerOn with sight := .seen, ceiling := 500 } }

/-- In MARK_WAIT; in a GAP before the MARK of slot 6, with the timer IDLE, DUE and LAPSED; and at a run-to-end window
before a MARK. -/
theorem witness_CycleMark :
    let waiting := aging (running 6 .markWait).seq
    let gap (t : CycleTimer) := aging { (running 5 .gapWait).seq with timer := t }
    let windowed : State := { waitingWindow with seq := { waitingWindow.seq with current := 5 } }
    (∀ s ∈ [waiting, gap .idle, gap .due, gap .lapsed, windowed],
        Settled s ∧ RoomForReports s 18 ∧ s.seq.state = .running)
      ∧ PostsWait waiting ∧ waiting.seq.timer = .counting ∧ waiting.seq.activity = .markWait
      ∧ (waiting.slot (nextSlot 6)).kind = .gap ∧ (waiting.node 1).health = .silent
      ∧ (waiting.lane .b).health = .down ∧ (waiting.node 1).probeCountdown ≤ 1 ∧ (waiting.lane .b).probeCountdown ≤ 1
      ∧ SectionBlinds waiting 0
      ∧ (∀ t ∈ [CycleTimer.idle, .due, .lapsed], PostsWait (gap t) ∧ (gap t).seq.timer = t
          ∧ (gap t).seq.activity = .gapWait ∧ (gap t).seq.current = 5)
      ∧ (plant.cycle[6]).kind = .mark ∧ (plant.cycle[7]).kind = .gap
      ∧ windowed.seq.timer = .counting ∧ windowed.seq.activity ≠ .markWait ∧ windowed.arb.window.isOpen = true
      ∧ windowed.arb.window.kind = .runToEnd ∧ windowed.arb.window.inFlight = none := by
  decide +kernel

theorem witness_ProbeCountdownEnds :
    let s : State := { withNode 48 silentNode ready with xe := { ready.xe with laneB := downLane } }
    AtRest s ∧ PostsWait s ∧ (s.lane .a).health = .up ∧ (s.lane .b).health = .down ∧ (s.node 1).health = .active
      ∧ (s.node 48).health = .silent := by
  decide +kernel

theorem witness_SectionTimerExpiries :
    let at_ (b : Int) (f : Flow) : State := ready.setSec 7 { SectionState.powerOn with
      interval := some 1, flow := f, balance := b }
    AtRest flushing ∧ Settled flushing ∧ PostsWait flushing ∧ RoomForReports flushing 1
      ∧ (flushing.sec 0).interval = some 900000 ∧ (flushing.sec 0).flushTimer = some 90000
      ∧ (flushing.sec 0).flow = .flushing ∧ (flushing.sec 7).interval = none ∧ (flushing.sec 7).flushTimer = none
      ∧ (∀ p ∈ [((7 : Int), Flow.parked), (-3, .opened), (6, .flushing)],
          Settled (at_ p.1 p.2) ∧ ((at_ p.1 p.2).sec 7).interval = some 1) := by
  decide +kernel

theorem witness_PlantTimeMoves :
    (exec (.powerOnReset true) ready matches .next _) ∧ AtRest ready ∧ Instr.stop 0 ≠ .plantTimeTick
      ∧ (exec (.stop 0) ready matches .next _)
      ∧ (after .plantTimeTick { ready with plantTime := 0xFFFFFFFF }).plantTime = 0 := by
  decide +kernel

theorem witness_AlarmLinesFollow : AlarmsFollow (about (.stop 0)) ∧ (step (about (.stop 0)) matches .next _) := by
  unfold AlarmsFollow; decide +kernel

theorem witness_FrostLimitsHold :
    LimitsDerived (about (.stop 0)) ∧ CeilingsBounded (about (.stop 0)) ∧ StartingQuiet (about (.stop 0))
      ∧ (step (about (.stop 0)) matches .next _) :=
  ⟨by unfold LimitsDerived SectionDerived; decide +kernel, by unfold CeilingsBounded; decide +kernel,
    fun h => absurd h (by decide +kernel), by decide +kernel⟩

theorem witness_QueuesAndBalancesBounded :
    QueuesBounded (about (.stop 0)) ∧ BalancesBounded (about (.stop 0)) ∧ (step (about (.stop 0)) matches .next _) :=
  ⟨by unfold QueuesBounded; decide +kernel, by unfold BalancesBounded; decide +kernel, by decide +kernel⟩

theorem plant_in_range : RolesInRange plant := by unfold RolesInRange; decide +kernel

theorem witness_QueuesAndBalancesBounded_keys :
    let s := about (.startupReadEnd (.altered badImage))
    KeysInRange s ∧ TablesInRange s ∧ s.pending.head? = some (.startupReadEnd (.altered badImage))
      ∧ RolesInRange badImage.tables ∧ (step s matches .next _) :=
  ⟨⟨by decide +kernel, by decide +kernel, fun _ h => absurd h List.not_mem_nil⟩,
    ⟨plant_in_range, fun _ h => absurd h.symm (Option.some_ne_none _), fun _ h => absurd h.symm (Option.some_ne_none _)⟩, rfl, plant_in_range, by decide +kernel⟩

theorem witness_WalkAtRest :
    WalkRests { halted with pending := [.start 0 0] }
      ∧ (step { halted with pending := [.start 0 0] } matches .next _) :=
  ⟨halted_rests, by decide +kernel⟩

end Sys2Proof.Tests
end

section
/-! PROOFS. The supervision mode (R145, R146): a served command that leaves the part settled is answered on the state it
leaves, a change of mode leaves it settled, and HOLD and RESUME are such commands. -/

namespace Sys2Proof.Machine

/-! ## A request that is answered (R162) -/

/-- A response placed on a settled part ends the command: a free transmitter chooses, and nothing else follows. -/
theorem finish_respond_plain {u : State} (kind tag : Byte) (code : ResultCode) (data : List Byte) (h : Settled u) :
    finish (respond kind tag (.plain code data) u) = u.withLu (replied u.lu kind tag code data) := by
  have hs : Settled (respond kind tag (.plain code data) u) := h
  exact finish_of_settled hs

/-- A request whose execution leaves `u` settled is answered on `u`. -/
theorem request_answered {kind tag : Byte} {idle : List Byte} {body : State → Served} {s u : State}
    {code : ResultCode} {data : List Byte} (h : Ready s)
    (hb : body (s.withLu (frameTaken s)) = (u, some (.plain code data))) (hu : Settled u) :
    request kind tag idle body s = u.withLu (replied u.lu kind tag code data) := by
  rw [request_ready h, hb]
  exact finish_respond_plain kind tag code data hu

/-- R154: while STARTING a request is answered NOT_NOW, whatever would serve it. -/
theorem request_starting {kind tag : Byte} {idle : List Byte} {body : State → Served} {s : State} (h : s.Starting)
    (hup : s.lu.link = .up) (hroom : s.lu.responses.length < 4) (hs : Settled s) :
    request kind tag idle body s = s.withLu (answered s kind tag .notNow idle) := by
  have ht : (s.withLu (frameTaken s)).Starting := h
  have hst : Settled (s.withLu (frameTaken s)) := hs
  rw [request, takeValid_room hup hroom, whileServed_starting ht]
  exact finish_respond_plain kind tag .notNow idle hst

/-! ## A change of mode (R147) -/

/-- R147: the report carries the new mode and the cause, at the time of the change. -/
theorem changeMode_eq (m : Mode) (cause : ModeCause) (s : State) :
    changeMode m cause s = queueReport (infoNow s .mode (.mode m) cause.code) (s.withMode m) := rfl

/-- A queued report brings neither a move of the walk nor a decision of the arbiter. -/
theorem settled_queueReport {r : Report} {s : State} (h : Settled s) : Settled (queueReport r s) := by
  obtain ⟨rs, n, eu, hq⟩ := queueReport_frame r s
  rw [hq]
  exact h

theorem settled_changeMode {m : Mode} {cause : ModeCause} {s : State} (h : Settled s) :
    Settled (changeMode m cause s) := by
  have hm : Settled (s.withMode m) := h
  rw [changeMode_eq]
  exact settled_queueReport hm

/-- A request that changes the mode is answered OK on the state that has queued the MODE report. -/
theorem request_changesMode {kind tag code : Byte} {idle : List Byte} {body : State → Served} {m : Mode}
    {cause : ModeCause} {s : State} (h : Ready s)
    (hb : body (s.withLu (frameTaken s)) = accept code (changeMode m cause (s.withLu (frameTaken s)))) :
    let u := queueReport (infoNow s .mode (.mode m) cause.code) ((s.withLu (frameTaken s)).withMode m)
    request kind tag idle body s = u.withLu (replied u.lu kind tag .ok [code]) := by
  have ⟨_, _, _, hs⟩ := h
  have ht : Settled (s.withLu (frameTaken s)) := hs
  exact request_answered h hb (settled_changeMode ht)

/-! ## HOLD and RESUME -/

theorem exec_hold (tag : Byte) (s : State) :
    exec (.hold tag) s = .next (request kindCommand tag [codeHold] serveHold s) := rfl

theorem exec_resume (tag : Byte) (s : State) :
    exec (.resume tag) s = .next (request kindCommand tag [codeResume] serveResume s) := rfl

theorem serveHold_supervised {s : State} (h : s.mode = .supervised) :
    serveHold s = accept codeHold (changeMode .autonomous .hold s) := by
  rw [serveHold, if_pos h]

theorem serveHold_autonomous {s : State} (h : s.mode = .autonomous) : serveHold s = accept codeHold s := by
  simp [serveHold, h]

theorem serveResume_autonomous {s : State} (h : s.mode = .autonomous) :
    serveResume s = accept codeResume (changeMode .supervised .resume s) := by
  rw [serveResume, if_pos h]

theorem serveResume_supervised {s : State} (h : s.mode = .supervised) : serveResume s = accept codeResume s := by
  simp [serveResume, h]

/-- Settles O21: outside STARTING each command is served by the mode it finds, and while STARTING neither is served. -/
theorem holdAndResume : Obligations.HoldAndResume := by
  intro tag s hup hroom hs changed
  refine ⟨fun hserved => ?_, fun hstarting => ?_⟩
  · have hready : Ready s := ⟨hserved, hup, hroom, hs⟩
    refine ⟨fun hm => ?_, fun hm => ?_, fun hm => ?_, fun hm => ?_⟩
    · rw [exec_hold, request_changesMode (body := serveHold) hready (serveHold_supervised hm)]
      rfl
    · rw [exec_hold]
      exact congrArg _ (request_refused hready (serveHold_autonomous hm))
    · rw [exec_resume, request_changesMode (body := serveResume) hready (serveResume_autonomous hm)]
      rfl
    · rw [exec_resume]
      exact congrArg _ (request_refused hready (serveResume_supervised hm))
  · constructor
    · rw [exec_hold]
      exact congrArg _ (request_starting hstarting hup hroom hs)
    · rw [exec_resume]
      exact congrArg _ (request_starting hstarting hup hroom hs)

end Sys2Proof.Machine
end

section
/-! PROOFS. The report stream (R167, R169): a command that ends in the Link Unit is answered on the unit it leaves, and
REPORTS and CLEAR are such commands. -/

namespace Sys2Proof.Machine

/-! ## A request that touches the Link Unit alone -/

/-- A request that leaves another Link Unit and nothing else is answered OK on that unit. -/
theorem request_relinks {kind tag code : Byte} {idle : List Byte} {body : State → Served} {s : State} {u : LinkUnit}
    (h : Ready s) (hb : body (s.withLu (frameTaken s)) = accept code (s.withLu u)) :
    request kind tag idle body s = s.withLu (replied u kind tag .ok [code]) := by
  have ⟨_, _, _, hs⟩ := h
  have hu : Settled (s.withLu u) := hs
  exact request_answered h hb hu

/-! ## REPORTS (R167) -/

/-- A value at or beyond the end of its list names nothing. -/
theorem valueOf_eq_none {α : Type} {values : List α} {b : Byte} (h : values.length ≤ b.toNat) :
    valueOf values b = none := List.getElem?_eq_none h

theorem serveReports_named {stream : Byte} {x : Stream} (s : State) (h : valueOf streams stream = some x) :
    serveReports stream s = accept codeReports (setStream x s) := by
  rw [serveReports, h]

theorem serveReports_unnamed {stream : Byte} (s : State) (h : valueOf streams stream = none) :
    serveReports stream s = refuse .badValue [codeReports] s := by
  rw [serveReports, h]

theorem exec_reports (tag stream : Byte) (s : State) :
    exec (.reports tag stream) s = .next (request kindCommand tag [codeReports] (serveReports stream) s) := rfl

/-- R167: a stream of the list is set, and OFF empties the report queue. -/
theorem exec_reports_named {stream : Byte} {x : Stream} {s : State} (tag : Byte) (h : Ready s)
    (hx : valueOf streams stream = some x) :
    exec (.reports tag stream) s = .next (s.withLu
      (replied { frameTaken s with stream := x, reports := if x = .off then [] else (frameTaken s).reports }
        kindCommand tag .ok [codeReports])) := by
  rw [exec_reports]
  exact congrArg _ (request_relinks h (serveReports_named _ hx))

/-- R167: a stream outside the list is refused. -/
theorem exec_reports_unnamed {stream : Byte} {s : State} (tag : Byte) (h : Ready s)
    (hx : valueOf streams stream = none) :
    exec (.reports tag stream) s = .next (s.withLu (answered s kindCommand tag .badValue [codeReports])) := by
  rw [exec_reports]
  exact congrArg _ (request_refused h (serveReports_unnamed _ hx))

/-! ## CLEAR (R169) -/

theorem exec_clear (tag : Byte) (s : State) :
    exec (.clear tag) s = .next (request kindCommand tag [codeClear] serveClear s) := rfl

/-- On a state that has taken its frame, CLEAR leaves the same Link Unit with an empty report queue. -/
theorem serveClear_frameTaken (s : State) :
    serveClear (s.withLu (frameTaken s)) = accept codeClear (s.withLu { frameTaken s with reports := [] }) := rfl

/-- Settles O19: the three streams of the list by name, every value beyond it, and CLEAR. -/
theorem reportStreamCommands : Obligations.ReportStreamCommands := by
  intro tag stream s h
  refine ⟨fun hoff => ?_, fun hhold => ?_, fun hsend => ?_, fun hbeyond => ?_, ?_⟩
  · subst hoff
    exact exec_reports_named tag h (x := .off) rfl
  · subst hhold
    exact exec_reports_named tag h (x := .hold) rfl
  · subst hsend
    exact exec_reports_named tag h (x := .send) rfl
  · have hlen : streams.length ≤ stream.toNat := hbeyond
    exact exec_reports_unnamed tag h (valueOf_eq_none hlen)
  · rw [exec_clear]
    exact congrArg _ (request_relinks h (serveClear_frameTaken s))

end Sys2Proof.Machine
end

section
/-! PROOFS. The alarm lines (R186). `AlarmsFollow` reads three things of a state: the alarm map, the Event Unit and
whether the part is STARTING. An update that leaves the three keeps it; driving the lines brings it about whatever held
before. Every write of a flag, of the map, or of a store state that ends STARTING is followed by a drive, so every
operation keeps it. The lemmas `LinesFollow.after_f` say so for each operation `f`, in the order of the model, and
`linesFollow_f` where `f` drives the lines in any case. -/

namespace Sys2Proof.Machine

/-! ## Updates that leave the lines, the flags, the map and the store's state -/

/-- `AlarmsFollow` as a structure: a goal about a long computation is then not evaluated to find out whether the part is
STARTING at its end. -/
structure LinesFollow (s : State) : Prop where
  follow : AlarmsFollow s

theorem LinesFollow.of_same {s t : State} (h : LinesFollow s) (hc : t.cfg.alarm = s.cfg.alarm) (he : t.eu = s.eu)
    (hs : t.store.state = s.store.state) : LinesFollow t := by
  obtain ⟨h⟩ := h
  constructor
  unfold AlarmsFollow State.Starting at *
  rwa [hc, he, hs]

section Updates
variable {s : State} (h : LinesFollow s)
include h

theorem LinesFollow.after_withDemand {x : Vector (Option Nat) 48} : LinesFollow (s.withDemand x) := ⟨h.follow⟩
theorem LinesFollow.after_withSections {x : Vector SectionState 8} : LinesFollow (s.withSections x) := ⟨h.follow⟩
theorem LinesFollow.after_withLoop {x : LoopState} : LinesFollow (s.withLoop x) := ⟨h.follow⟩
theorem LinesFollow.after_withXe {x : ExchangeEngine} : LinesFollow (s.withXe x) := ⟨h.follow⟩
theorem LinesFollow.after_withSeq {x : Sequencer} : LinesFollow (s.withSeq x) := ⟨h.follow⟩
theorem LinesFollow.after_withArb {x : Arbiter} : LinesFollow (s.withArb x) := ⟨h.follow⟩
theorem LinesFollow.after_withLu {x : LinkUnit} : LinesFollow (s.withLu x) := ⟨h.follow⟩
theorem LinesFollow.after_withMode {x : Mode} : LinesFollow (s.withMode x) := ⟨h.follow⟩
theorem LinesFollow.after_withPlantTime {x : BitVec 32} : LinesFollow (s.withPlantTime x) := ⟨h.follow⟩
theorem LinesFollow.after_withPending {x : List Instr} : LinesFollow (s.withPending x) := ⟨h.follow⟩

theorem LinesFollow.after_withCfg {x : ConfigTables} (hx : x.alarm = s.cfg.alarm) : LinesFollow (s.withCfg x) :=
  h.of_same hx rfl rfl

theorem LinesFollow.after_setSec {i : Nat} {x : SectionState} : LinesFollow (s.setSec i x) := ⟨h.follow⟩

theorem LinesFollow.after_setNode {a : Nat} {x : NodeState} : LinesFollow (s.setNode a x) :=
  h.of_same (by simp) (by simp) (by simp)

theorem LinesFollow.after_setLane {l : Lane} {x : LaneState} : LinesFollow (s.setLane l x) :=
  h.of_same (by simp) (by simp) (by simp)

theorem LinesFollow.after_setDemand {a : Nat} {d : Option Nat} : LinesFollow (s.setDemand a d) := by
  unfold State.setDemand
  split
  · exact h
  · exact h.after_withDemand

theorem LinesFollow.after_setHold {a v : Nat} : LinesFollow (s.setHold a v) := by
  unfold State.setHold
  split
  · exact h
  · exact h.after_withCfg rfl

end Updates

/-! ## Flags, reports and events: every write of a flag drives the lines -/

/-- R186, R154: the lines follow once they are driven, whatever they showed before. -/
theorem linesFollow_driveLines (s : State) : LinesFollow (driveLines s) := by
  unfold driveLines
  split
  · next hs =>
    have starting : (s.withEu { s.eu with al0 := true, al1 := true, al2 := true }).Starting := hs
    exact ⟨(if_pos starting).mpr ⟨rfl, rfl, rfl⟩⟩
  · next hs => exact ⟨(if_neg hs).mpr ⟨rfl, rfl, rfl⟩⟩

theorem linesFollow_setFlag (c : EventClass) (s : State) : LinesFollow (setFlag c s) := linesFollow_driveLines _

theorem linesFollow_clearFlags (classes : BitVec 12) (s : State) : LinesFollow (clearFlags classes s) :=
  linesFollow_driveLines _

theorem LinesFollow.after_countLoss {s : State} (h : LinesFollow s) : LinesFollow (countLoss s) := by
  unfold countLoss
  dsimp only
  split
  · exact h.after_withLu
  · exact linesFollow_setFlag _ _

theorem LinesFollow.after_pushReport {s : State} {r : Report} (h : LinesFollow s) : LinesFollow (pushReport r s) :=
  h.after_withLu

theorem LinesFollow.after_dropOldestSample {s : State} (h : LinesFollow s) : LinesFollow (dropOldestSample s) :=
  h.after_withLu

theorem LinesFollow.after_queueReport {s : State} {r : Report} (h : LinesFollow s) :
    LinesFollow (queueReport r s) := by
  unfold queueReport
  split
  · exact h
  split
  · exact h.after_pushReport
  split
  · exact h.after_countLoss
  split
  · exact h.after_dropOldestSample.after_pushReport.after_countLoss
  · exact h.after_countLoss

/-- R182, R186: an event drives the lines, whatever they showed before. -/
theorem linesFollow_raise (c : EventClass) (x : Subject) (d : Byte) (s : State) : LinesFollow (raise c x d s) := by
  unfold raise
  dsimp only
  split
  · exact linesFollow_setFlag c s
  · exact (linesFollow_setFlag c s).after_queueReport

theorem LinesFollow.after_inform {s : State} {c : InfoClass} {x : Subject} {d : Byte} (h : LinesFollow s) :
    LinesFollow (inform c x d s) := h.after_queueReport

/-! ## Queues -/

section Queues
variable {s : State} (h : LinesFollow s)
include h

theorem LinesFollow.after_posted : LinesFollow (posted s) := h.after_withArb

theorem LinesFollow.after_postFrost {a : Nat} : LinesFollow (postFrost a s) := by
  unfold postFrost
  split
  · exact h
  · exact h.after_withArb.after_posted

theorem LinesFollow.after_postFlush {r : FlushRequest} : LinesFollow (postFlush r s) := by
  unfold postFlush
  split
  · split
    · exact h.after_withArb
    · exact h
  · exact h.after_withArb.after_posted

theorem LinesFollow.after_postPass {r : PassRequest} : LinesFollow (postPass r s) := by
  unfold postPass
  split
  · exact h.after_withArb.after_posted
  · exact h

theorem LinesFollow.after_postProbe {t : ProbeTarget} : LinesFollow (postProbe t s) := by
  unfold postProbe
  split
  · exact h
  · exact h.after_withArb.after_posted

theorem LinesFollow.after_removeFrost {a : Nat} : LinesFollow (removeFrost a s) := h.after_withArb

theorem LinesFollow.after_removeProbe {t : ProbeTarget} : LinesFollow (removeProbe t s) := h.after_withArb

end Queues

/-! ## Frost Guard -/

section Frost
variable {s : State} (h : LinesFollow s)
include h

theorem LinesFollow.after_checkFan {i a : Nat} : LinesFollow (checkFan i a s) := by
  unfold checkFan
  split
  · exact h.after_postFrost
  · exact h

theorem LinesFollow.after_checkValve {i a : Nat} : LinesFollow (checkValve i a s) := by
  unfold checkValve
  split
  · exact h.after_postFrost
  · exact h

theorem LinesFollow.after_checkPump {a : Nat} : LinesFollow (checkPump a s) := by
  unfold checkPump
  split
  · exact h.after_postFrost
  · exact h

theorem LinesFollow.after_overrideCheck {i : Nat} : LinesFollow (overrideCheck i s) :=
  (foldl_keeps (checkFan i) (fun _ _ k => k.after_checkFan) (s.secCfg i).fans s h).after_checkValve

theorem LinesFollow.after_pumpCheck : LinesFollow (pumpCheck s) :=
  foldl_keeps checkPump (fun _ _ k => k.after_checkPump) s.cfg.loop.pumps s h

theorem LinesFollow.after_derive {i : Nat} : LinesFollow (derive i s) := h.after_setSec

theorem LinesFollow.after_deriveAndCheck {i : Nat} : LinesFollow (deriveAndCheck i s) :=
  h.after_derive.after_overrideCheck

theorem LinesFollow.after_checkNode {a : Nat} : LinesFollow (checkNode a s) := by
  unfold checkNode
  split
  · exact h.after_checkFan
  split
  · exact h.after_checkValve
  split
  · exact h.after_checkPump
  · exact h

theorem LinesFollow.after_sectionArrival {i : Nat} {v : Int} : LinesFollow (sectionArrival i v s) := by
  unfold sectionArrival
  dsimp only
  split
  · exact linesFollow_raise ..
  · exact h.after_setSec.after_deriveAndCheck

theorem LinesFollow.after_afterLoopCeiling {before : Nat} : LinesFollow (afterLoopCeiling before s) := by
  unfold afterLoopCeiling
  split
  · exact forSections_keeps (fun _ _ k => k.after_deriveAndCheck) h
  · exact h

theorem LinesFollow.after_supplyArrival {v : Int} : LinesFollow (supplyArrival v s) := by
  unfold supplyArrival
  dsimp only
  split
  · exact linesFollow_raise ..
  · exact h.after_withLoop.after_afterLoopCeiling

theorem LinesFollow.after_returnArrival {v : Int} : LinesFollow (returnArrival v s) := h.after_withLoop

theorem LinesFollow.after_ambientArrival {v : Int} : LinesFollow (ambientArrival v s) := h.after_withLoop

omit h in
theorem linesFollow_enterBlind (i : Nat) (s : State) : LinesFollow (enterBlind i s) := by
  unfold enterBlind
  exact linesFollow_raise ..

omit h in
theorem linesFollow_supplyBlind (s : State) : LinesFollow (supplyBlind s) := by
  unfold supplyBlind
  exact linesFollow_raise ..

theorem LinesFollow.after_enterStale {i : Nat} : LinesFollow (enterStale i s) := h.after_setSec.after_deriveAndCheck

theorem LinesFollow.after_markSection {i : Nat} : LinesFollow (markSection i s) := by
  unfold markSection
  dsimp only
  split
  · split
    · exact h
    split
    · exact linesFollow_enterBlind i s
    split
    · exact h.after_enterStale
    · exact h
  · exact h

theorem LinesFollow.after_markSupply : LinesFollow (markSupply s) := by
  unfold markSupply
  dsimp only
  split
  · exact h
  split
  · exact h
  split
  · exact linesFollow_supplyBlind s
  · exact h.after_withLoop

theorem LinesFollow.after_markReturnAmbient : LinesFollow (markReturnAmbient s) := h.after_withLoop

theorem LinesFollow.after_markTransient {i : Nat} : LinesFollow (markTransient i s) := by
  unfold markTransient
  split
  · exact h.after_setSec
  · exact h

theorem LinesFollow.after_frostMark : LinesFollow (frostMark s) :=
  have judged : LinesFollow (forSections markSection s) := forSections_keeps (fun _ _ k => k.after_markSection) h
  forSections_keeps (fun _ _ k => k.after_markTransient) judged.after_markSupply.after_markReturnAmbient

theorem LinesFollow.after_countClamp {a : Nat} : LinesFollow (countClamp a s) := by
  unfold countClamp
  split
  · exact h.after_setSec
  · exact h

theorem LinesFollow.after_startTransient {a : Nat} {prev new : Option Nat} :
    LinesFollow (startTransient a prev new s) := by
  unfold startTransient
  split
  · split
    · exact h
    · exact h.after_setSec
  · exact h

theorem LinesFollow.after_frostTakesDrive {a : Nat} {prev new : Option Nat} :
    LinesFollow (frostTakesDrive a prev new s) := h.after_startTransient.after_checkNode

end Frost

/-! ## Flush Accounting -/

section Flush
variable {s : State} (h : LinesFollow s)
include h

theorem LinesFollow.after_startInterval {i : Nat} : LinesFollow (startInterval i s) := h.after_setSec

theorem LinesFollow.after_setFlow {i : Nat} {f : Flow} : LinesFollow (setFlow i f s) := by
  unfold setFlow
  split
  · exact h
  · exact h.after_setSec.after_deriveAndCheck

theorem LinesFollow.after_judgeFlow {i : Nat} : LinesFollow (judgeFlow i s) := h.after_setFlow

theorem LinesFollow.after_endPulse {i : Nat} : LinesFollow (endPulse i s) := h.after_setSec.after_judgeFlow

theorem LinesFollow.after_flushTakesDrive {a : Nat} : LinesFollow (flushTakesDrive a s) := by
  unfold flushTakesDrive
  split
  · split
    · exact h
    · exact h.after_judgeFlow
  · exact h

theorem LinesFollow.after_intervalExpiry {i : Nat} : LinesFollow (intervalExpiry i s) := by
  unfold intervalExpiry
  dsimp only
  split
  · exact (linesFollow_raise ..).after_startInterval
  · exact h.after_setSec.after_startInterval

theorem LinesFollow.after_reportBlocked {i : Nat} : LinesFollow (reportBlocked i s) := by
  unfold reportBlocked
  split
  · exact h
  · exact linesFollow_raise ..

theorem LinesFollow.after_markFlush {i : Nat} : LinesFollow (markFlush i s) := by
  unfold markFlush
  dsimp only
  split
  · exact h
  split
  · split
    · exact h.after_postFlush
    · exact h
  split
  · exact h.after_reportBlocked
  · exact h.after_postFlush

theorem LinesFollow.after_flushMark : LinesFollow (flushMark s) :=
  forSections_keeps (fun _ _ k => k.after_markFlush) h

theorem LinesFollow.after_flushGrantSkipped {r : FlushRequest} : LinesFollow (flushGrantSkipped r s) := by
  unfold flushGrantSkipped
  split
  · split
    · exact h.after_reportBlocked
    · exact h
  · exact h

theorem LinesFollow.after_pulseBegins {i : Nat} : LinesFollow (pulseBegins i s) := h.after_setSec.after_setFlow

theorem LinesFollow.after_flushStartResult {i node : Nat} {success : Bool} :
    LinesFollow (flushStartResult i node success s) := by
  unfold flushStartResult
  split
  · exact h.after_pulseBegins
  · exact h

theorem LinesFollow.after_pulseCompletes {i : Nat} : LinesFollow (pulseCompletes i s) :=
  h.after_setSec.after_setFlow.after_postFlush

end Flush

/-! ## Node Table, and the health of nodes and lanes -/

section Nodes
variable {s : State} (h : LinesFollow s)
include h

theorem LinesFollow.after_handArrival {a : Nat} {v : Int} : LinesFollow (handArrival a v s) := by
  unfold handArrival
  split
  · split
    · exact h.after_sectionArrival
    · exact h
  split
  · exact h.after_supplyArrival
  split
  · exact h.after_ambientArrival
  split
  · exact h.after_returnArrival
  · exact h

theorem LinesFollow.after_handDrive {a : Nat} {prev new : Option Nat} : LinesFollow (handDrive a prev new s) :=
  h.after_flushTakesDrive.after_frostTakesDrive

/-- R6 to R13: the record, the sample report, a successful DRIVE and an arrival, one after the other. -/
theorem LinesFollow.after_takeReply {r : ExchangeResult} {reply : Reply} : LinesFollow (takeReply r reply s) := by
  have reported {c : Prop} [Decidable c] {p : Report} {t : State} (k : LinesFollow t) :
      LinesFollow (if c then queueReport p t else t) := by
    split
    · exact k.after_queueReport
    · exact k
  have driven {c : Prop} [Decidable c] {a : Nat} {prev new : Option Nat} {t : State} (k : LinesFollow t) :
      LinesFollow (if c then handDrive a prev new t else t) := by
    split
    · exact k.after_handDrive
    · exact k
  unfold takeReply
  dsimp only
  split
  · exact (driven (reported h.after_setNode)).after_handArrival
  · exact driven (reported h.after_setNode)

theorem LinesFollow.after_ageNode {a : Nat} : LinesFollow (ageNode a s) := by
  unfold ageNode
  split
  · exact h
  · exact h.after_setNode

theorem LinesFollow.after_nodeMark : LinesFollow (nodeMark s) := forNodes_keeps (fun _ _ k => k.after_ageNode) h

theorem LinesFollow.after_nodeActive {a : Nat} {report : Bool} : LinesFollow (nodeActive a report s) := by
  unfold nodeActive
  dsimp only
  split
  · exact h.after_setNode.after_removeProbe.after_inform.after_checkNode
  · exact h.after_setNode.after_removeProbe.after_checkNode

theorem LinesFollow.after_nodeGood {a : Nat} : LinesFollow (nodeGood a s) := by
  unfold nodeGood
  split
  · exact h.after_nodeActive
  · exact h.after_setNode

omit h in
theorem linesFollow_nodeSilenced (a : Nat) (s : State) : LinesFollow (nodeSilenced a s) :=
  (linesFollow_raise ..).after_removeFrost

theorem LinesFollow.after_nodeFailed {a : Nat} : LinesFollow (nodeFailed a s) := by
  unfold nodeFailed
  split
  · exact linesFollow_nodeSilenced a s
  · exact h.after_setNode

theorem LinesFollow.after_healthStage {r : ExchangeResult} : LinesFollow (healthStage r s) := by
  unfold healthStage
  split
  · exact h.after_nodeGood
  · exact h
  · exact h
  · split
    · exact h.after_nodeFailed
    · exact h

theorem LinesFollow.after_laneUp {l : Lane} : LinesFollow (laneUp l s) :=
  h.after_setLane.after_inform.after_removeProbe

theorem LinesFollow.after_laneGood {l : Lane} : LinesFollow (laneGood l s) := by
  unfold laneGood
  split
  · exact h.after_laneUp
  · exact h.after_setLane

theorem LinesFollow.after_attemptSucceeded {l : Lane} {a : Nat} : LinesFollow (attemptSucceeded l a s) :=
  h.after_withXe.after_laneGood

theorem LinesFollow.after_attemptFailed {l : Lane} {e : TransferError} : LinesFollow (attemptFailed l e s) := by
  unfold attemptFailed
  dsimp only
  split
  · exact linesFollow_raise ..
  · exact h.after_setLane

theorem LinesFollow.after_laneProbeDue {l : Lane} : LinesFollow (laneProbeDue l s) := h.after_setLane.after_postProbe

theorem LinesFollow.after_markLane {l : Lane} : LinesFollow (markLane l s) := by
  unfold markLane
  split
  · exact h
  split
  · exact h.after_laneProbeDue
  · exact h.after_setLane

theorem LinesFollow.after_nodeProbeDue {a : Nat} : LinesFollow (nodeProbeDue a s) := h.after_setNode.after_postProbe

theorem LinesFollow.after_markNodeProbe {a : Nat} : LinesFollow (markNodeProbe a s) := by
  unfold markNodeProbe
  split
  · exact h
  split
  · exact h.after_nodeProbeDue
  · exact h.after_setNode

theorem LinesFollow.after_probeMark : LinesFollow (probeMark s) :=
  forNodes_keeps (fun _ _ k => k.after_markNodeProbe) h.after_markLane.after_markLane

/-- R109: the mark as the four blocks take it, one after the other. -/
theorem LinesFollow.after_announceMark : LinesFollow (announceMark s) :=
  h.after_nodeMark.after_frostMark.after_flushMark.after_probeMark

end Nodes

/-! ## The walk's own moves and windows -/

section Walk
variable {s : State} (h : LinesFollow s)
include h

theorem LinesFollow.after_enterIdle : LinesFollow (enterIdle s) := h.after_withSeq

theorem LinesFollow.after_goTo {i : Nat} : LinesFollow (goTo i s) := h.after_withSeq

theorem LinesFollow.after_goOn : LinesFollow (goOn s) := h.after_goTo

theorem LinesFollow.after_startAt {i : Nat} : LinesFollow (startAt i s) := h.after_withSeq

omit h in
theorem linesFollow_halt (cause : HaltCause) (s : State) : LinesFollow (halt cause s) := by
  unfold halt
  exact linesFollow_raise ..

theorem LinesFollow.after_clearWindow : LinesFollow (clearWindow s) := h.after_withArb

theorem LinesFollow.after_closeWindow : LinesFollow (closeWindow s) := by
  unfold closeWindow
  dsimp only
  split
  · exact h.after_clearWindow.after_goOn
  · exact h.after_clearWindow.after_enterIdle
  · exact h.after_clearWindow
  · exact h.after_clearWindow

end Walk

/-! ## One exchange -/

section Exchange
variable {s : State} (h : LinesFollow s)
include h

theorem LinesFollow.after_slotTakesResult {r : ExchangeResult} : LinesFollow (slotTakesResult r s) := by
  unfold slotTakesResult
  dsimp only
  split
  · split
    · exact h.after_goTo
    · exact h.after_goOn
  · exact h.after_enterIdle
  · exact h
  · exact h

theorem LinesFollow.after_handOn {q : ExchangeRequest} {r : ExchangeResult} : LinesFollow (handOn q r s) := by
  unfold handOn
  split
  · exact h.after_flushStartResult
  · exact h.after_queueReport
  all_goals exact h

theorem LinesFollow.after_requestDone : LinesFollow (requestDone s) := by
  unfold requestDone
  dsimp only
  split
  · exact h.after_withArb.after_closeWindow
  · exact h.after_withArb

theorem LinesFollow.after_handResult {q : ExchangeRequest} {r : ExchangeResult} : LinesFollow (handResult q r s) := by
  unfold handResult
  split
  · exact h.after_slotTakesResult
  · exact h.after_handOn.after_requestDone

theorem LinesFollow.after_nodeStage {r : ExchangeResult} {reply : Option Reply} :
    LinesFollow (nodeStage r reply s) := by
  unfold nodeStage
  split
  · split
    · exact h.after_takeReply
    · exact h
  · exact h

/-- R82: the three stages, one after the other. -/
theorem LinesFollow.after_endExchange {q : ExchangeRequest} {v : Option Nat} {c : Bool} {e : Ending} :
    LinesFollow (endExchange q v c e s) :=
  h.after_withXe.after_healthStage.after_nodeStage.after_withXe.after_handResult

theorem LinesFollow.after_beginAttempt {f : Flight} {n : Nat} {l : Lane} : LinesFollow (beginAttempt f n l s) :=
  h.after_withXe

theorem LinesFollow.after_makeAttempt {f : Flight} {n : Nat} : LinesFollow (makeAttempt f n s) := by
  unfold makeAttempt
  split
  · exact h.after_beginAttempt
  · exact h.after_endExchange

theorem LinesFollow.after_beginExchange {q : ExchangeRequest} : LinesFollow (beginExchange q s) := by
  unfold beginExchange
  split
  · exact h.after_endExchange
  · dsimp only
    split
    · exact h.after_countClamp.after_makeAttempt
    · exact h.after_makeAttempt

theorem LinesFollow.after_startIdleTime : LinesFollow (startIdleTime s) := h.after_withXe

theorem LinesFollow.after_retryOrEnd {f : Flight} {o : Outcome} {reply : Option Reply} :
    LinesFollow (retryOrEnd f o reply s) := by
  unfold retryOrEnd
  split
  · exact h.after_makeAttempt
  · exact h.after_endExchange

theorem LinesFollow.after_failAttempt {f : Flight} {e : TransferError} : LinesFollow (failAttempt f e s) :=
  h.after_startIdleTime.after_attemptFailed.after_retryOrEnd

theorem LinesFollow.after_succeedAttempt {f : Flight} {reply : Reply} : LinesFollow (succeedAttempt f reply s) := by
  unfold succeedAttempt
  dsimp only
  split
  · exact h.after_startIdleTime.after_attemptSucceeded.after_retryOrEnd
  · exact h.after_startIdleTime.after_attemptSucceeded.after_endExchange

theorem LinesFollow.after_judgeAttempt {f : Flight} {octets : List Byte} : LinesFollow (judgeAttempt f octets s) := by
  unfold judgeAttempt
  split
  · exact h.after_failAttempt
  · exact h.after_succeedAttempt

theorem LinesFollow.after_takeReplyOctet {f : Flight} {b : Byte} : LinesFollow (takeReplyOctet f b s) := by
  unfold takeReplyOctet
  dsimp only
  split
  · exact h.after_judgeAttempt
  · exact h.after_withXe

theorem LinesFollow.after_abandonExchange : LinesFollow (abandonExchange s) := by
  unfold abandonExchange
  split
  · exact h
  · exact h.after_withXe

end Exchange

/-! ## The arbiter's decisions -/

section Arbiter
variable {s : State} (h : LinesFollow s)
include h

theorem LinesFollow.after_requestExchange {q : ExchangeRequest} : LinesFollow (requestExchange q s) :=
  h.after_withArb.after_beginExchange

theorem LinesFollow.after_grantFlush {r : FlushRequest} : LinesFollow (grantFlush r s) := by
  unfold grantFlush
  split
  · exact h.after_requestExchange
  · exact h.after_flushGrantSkipped.after_withArb

/-- R132: the head of the candidate's queue is acted on, by its source. -/
theorem LinesFollow.after_grant {c : Candidate} : LinesFollow (grant c s) := by
  have moved : LinesFollow (s.withArb (movePointers c s.arb)) := h.after_withArb
  unfold grant
  dsimp only
  split
  · split
    · exact moved.after_withArb.after_requestExchange
    · exact moved
  · split
    · exact moved.after_withArb.after_grantFlush
    · exact moved
  · split
    · exact moved.after_withArb.after_requestExchange
    · exact moved
  · split
    · exact moved.after_withArb.after_requestExchange
    · exact moved
  · exact moved

theorem LinesFollow.after_decision : LinesFollow (decision s) := by
  unfold decision
  split
  · split
    · exact h.after_grant
    · exact h.after_closeWindow
  split
  · exact h.after_closeWindow
  split
  · exact h.after_closeWindow
  · exact h

theorem LinesFollow.after_makeDecision : LinesFollow (makeDecision s) := by
  unfold makeDecision
  dsimp only
  split
  · exact h.after_withArb.after_decision
  · exact h.after_withArb

end Arbiter

/-! ## Slots, and what follows a command within it -/

section Slots
variable {s : State} (h : LinesFollow s)
include h

omit h in
theorem linesFollow_countOverrun (s : State) : LinesFollow (countOverrun s) := linesFollow_raise ..

theorem LinesFollow.after_passMark {late : Bool} : LinesFollow (passMark late s) := by
  unfold passMark
  dsimp only
  split
  · exact (linesFollow_countOverrun _).after_announceMark.after_goOn
  · exact h.after_withSeq.after_announceMark.after_goOn

theorem LinesFollow.after_reachMark : LinesFollow (reachMark s) := by
  unfold reachMark
  split
  · exact h.after_passMark
  · exact h.after_withSeq
  · exact h.after_passMark
  · exact h.after_passMark

theorem LinesFollow.after_reachExchange {x : Slot} : LinesFollow (reachExchange x s) :=
  h.after_withSeq.after_beginExchange

theorem LinesFollow.after_reachGap {x : Slot} : LinesFollow (reachGap x s) := h.after_withSeq

theorem LinesFollow.after_reachWindow {x : Slot} : LinesFollow (reachWindow x s) := h.after_withSeq.after_withArb

theorem LinesFollow.after_reachCall {x : Slot} : LinesFollow (reachCall x s) := h.after_withSeq.after_goTo

theorem LinesFollow.after_reachReturn : LinesFollow (reachReturn s) := by
  unfold reachReturn
  split
  · exact h.after_withSeq.after_goTo
  · exact h

theorem LinesFollow.after_actSlot {x : Slot} : LinesFollow (actSlot x s) := by
  unfold actSlot
  split
  · exact h.after_reachMark
  · exact h.after_reachExchange
  · exact h.after_reachExchange
  · exact h.after_reachExchange
  · exact h.after_reachGap
  · exact h.after_reachWindow
  · exact h.after_goTo
  · exact h.after_reachCall
  · exact h.after_reachReturn
  · exact (linesFollow_raise ..).after_goOn
  · exact h.after_enterIdle

theorem LinesFollow.after_reachSlot {i : Nat} : LinesFollow (reachSlot i s) := by
  unfold reachSlot
  dsimp only
  split
  · exact linesFollow_halt _ _
  · exact h.after_withSeq.after_withSeq.after_actSlot

theorem LinesFollow.after_settleOnce {t : State} (ht : settleOnce s = some t) : LinesFollow t := by
  unfold settleOnce at ht
  split at ht
  · rw [← Option.some.inj ht]
    exact h.after_makeDecision
  split at ht
  · rw [← Option.some.inj ht]
    exact h.after_reachSlot
  · cases ht

omit h in
theorem LinesFollow.after_settleFor : ∀ (n : Nat) {s : State}, LinesFollow s → LinesFollow (settleFor n s)
  | 0, _, h => h
  | n + 1, _, h => by
    unfold settleFor
    split
    · next ht => exact after_settleFor n (h.after_settleOnce ht)
    · exact h

theorem LinesFollow.after_settle : LinesFollow (settle s) := after_settleFor settleBound h

end Slots

end Sys2Proof.Machine
end

section
/-! PROOFS. The alarm lines (R186), continued: the Link Unit, the store, the table writes and the requests keep
`LinesFollow`. The store ends STARTING with a drive, and the alarm map is written with one. -/

namespace Sys2Proof.Machine

/-! ## Link Unit and mode -/

section Link
variable {s : State} (h : LinesFollow s)
include h

theorem LinesFollow.after_changeMode {m : Mode} {cause : ModeCause} : LinesFollow (changeMode m cause s) :=
  h.after_withMode.after_inform

theorem LinesFollow.after_takeLinkLoss : LinesFollow (takeLinkLoss s) := by
  unfold takeLinkLoss
  split
  · exact h.after_changeMode
  · exact h

omit h in
theorem linesFollow_loseLink (s : State) : LinesFollow (loseLink s) := (linesFollow_raise ..).after_takeLinkLoss

theorem LinesFollow.after_txStart : LinesFollow (txStart s) := by
  rw [txStart_eq]
  exact h.after_withLu

theorem LinesFollow.after_fillExpiry : LinesFollow (fillExpiry s) := by
  unfold fillExpiry
  split
  · exact h.after_withLu
  · exact h

theorem LinesFollow.after_finish : LinesFollow (finish s) := h.after_settle.after_txStart

theorem LinesFollow.after_setStream {x : Stream} : LinesFollow (setStream x s) := h.after_withLu

theorem LinesFollow.after_clearReports : LinesFollow (clearReports s) := h.after_withLu

theorem LinesFollow.after_linkReset : LinesFollow (linkReset s) := h.after_withLu

theorem LinesFollow.after_linkTaken : LinesFollow (linkTaken s) := by
  unfold linkTaken
  dsimp only
  split
  · exact h.after_withLu.after_inform
  · exact h.after_withLu

theorem LinesFollow.after_discardRequest : LinesFollow (discardRequest s) := h.after_withLu

theorem LinesFollow.after_respond {kind tag : Byte} {a : Answer} : LinesFollow (respond kind tag a s) := h.after_withLu

end Link

/-! ## Start-up and the store: the state STARTING ends in is driven, and no other change of the store bears on a line -/

section Store
variable {s : State} (h : LinesFollow s)

/-- R154: at a power-on the part is STARTING and every line is asserted. -/
theorem linesFollow_powerOn (pin : Bool) (s : State) : LinesFollow (powerOn pin s) := ⟨rfl, rfl, rfl⟩

theorem linesFollow_startFromImage (t : ConfigTables) (s : State) : LinesFollow (startFromImage t s) :=
  linesFollow_driveLines _

theorem linesFollow_startFromDefaults (image : ImageState) (cause : StoreCause) (s : State) :
    LinesFollow (startFromDefaults image cause s) := by
  unfold startFromDefaults
  exact linesFollow_raise ..

theorem linesFollow_endStarting (image : Option StoredImage) (s : State) : LinesFollow (endStarting image s) := by
  unfold endStarting
  dsimp only
  split
  · split
    · exact linesFollow_startFromImage _ _
    · exact linesFollow_startFromDefaults _ _ _
  · exact linesFollow_startFromDefaults _ _ _

include h

theorem LinesFollow.after_startupRead {read : ReadBack} : LinesFollow (startupRead read s) := by
  unfold startupRead
  split
  · exact linesFollow_endStarting _ s
  · exact h

/-- Outside STARTING the lines do not depend on the store. -/
theorem LinesFollow.after_withStore {x : Store} (hs : s.store.state ≠ .reading) (hx : x.state ≠ .reading) :
    LinesFollow (s.withStore x) := by
  obtain ⟨h⟩ := h
  exact ⟨(if_neg hx).mpr ((if_neg hs).mp h)⟩

theorem LinesFollow.after_beginSave (hs : s.store.state = .idle) : LinesFollow (beginSave s) :=
  h.after_withStore (by simp [hs]) (by simp)

theorem LinesFollow.after_storeWritten {read : ReadBack} : LinesFollow (storeWritten read s) := by
  unfold storeWritten
  split
  · next hs =>
    unfold endWriting
    split
    · exact (h.after_withStore (by simp [hs]) (by simp)).after_inform
    · exact (linesFollow_raise ..).after_inform
  · exact h

end Store

/-! ## The entries of a TABLE_WRITE -/

section Writes
variable {s : State} (h : LinesFollow s)
include h

theorem LinesFollow.after_writeSlot {i : Nat} {x : Slot} : LinesFollow (writeSlot i x s) := h.after_withCfg rfl

theorem LinesFollow.after_writeNodeCfg {a : Nat} {c : NodeCfg} : LinesFollow (writeNodeCfg a c s) :=
  h.after_withCfg rfl

theorem LinesFollow.after_resetNode {a : Nat} {k : NodeKind} : LinesFollow (resetNode a k s) :=
  h.after_setNode.after_setDemand.after_setHold

theorem LinesFollow.after_kindChange {a : Nat} {k : NodeKind} : LinesFollow (kindChange a k s) := by
  unfold kindChange
  dsimp only
  split
  · exact h.after_resetNode.after_nodeActive
  · exact h.after_resetNode

theorem LinesFollow.after_silenceLowered {a before after : Nat} : LinesFollow (silenceLowered a before after s) := by
  unfold silenceLowered
  dsimp only
  split
  · exact h.after_setNode
  · exact h

theorem LinesFollow.after_writeNode {a : Nat} {c : NodeCfg} : LinesFollow (writeNode a c s) := by
  unfold writeNode
  dsimp only
  split
  · exact h.after_writeNodeCfg.after_silenceLowered
  · exact h.after_writeNodeCfg.after_kindChange

theorem LinesFollow.after_writeSectionCfg {i : Nat} {c : SectionCfg} : LinesFollow (writeSectionCfg i c s) :=
  h.after_withCfg rfl

theorem LinesFollow.after_blindCeilingWritten {i : Nat} {before c : SectionCfg} :
    LinesFollow (blindCeilingWritten i before c s) := by
  unfold blindCeilingWritten
  dsimp only
  split
  · exact h.after_setSec
  · exact h

theorem LinesFollow.after_sectionFrost {i : Nat} {before c : SectionCfg} :
    LinesFollow (sectionFrost i before c s) := by
  unfold sectionFrost
  split
  · exact h.after_setSec
  split
  · exact linesFollow_enterBlind i s
  · exact h.after_blindCeilingWritten

theorem LinesFollow.after_sectionTimer {i : Nat} {before c : SectionCfg} :
    LinesFollow (sectionTimer i before c s) := by
  unfold sectionTimer
  split
  · exact h.after_startInterval
  split
  · exact h.after_setSec
  · exact h

theorem LinesFollow.after_sectionFlow {i : Nat} {before c : SectionCfg} :
    LinesFollow (sectionFlow i before c s) := by
  unfold sectionFlow
  split
  · split
    · exact h.after_endPulse
    · exact h
  split
  · exact h.after_judgeFlow
  · exact h

theorem LinesFollow.after_writeSection {i : Nat} {c : SectionCfg} : LinesFollow (writeSection i c s) :=
  h.after_writeSectionCfg.after_sectionFrost.after_sectionTimer.after_sectionFlow.after_deriveAndCheck

theorem LinesFollow.after_loopSupplyWritten {before c : LoopCfg} : LinesFollow (loopSupplyWritten before c s) := by
  unfold loopSupplyWritten
  split
  · exact h.after_withLoop
  split
  · exact linesFollow_supplyBlind s
  split
  · exact h.after_withLoop
  · exact h

theorem LinesFollow.after_loopReturnWritten {before c : LoopCfg} : LinesFollow (loopReturnWritten before c s) := by
  unfold loopReturnWritten
  split
  · exact h.after_withLoop
  · exact h

theorem LinesFollow.after_loopAmbientWritten {before c : LoopCfg} : LinesFollow (loopAmbientWritten before c s) := by
  unfold loopAmbientWritten
  split
  · exact h.after_withLoop
  · exact h

theorem LinesFollow.after_writeLoop {c : LoopCfg} : LinesFollow (writeLoop c s) :=
  have written : LinesFollow (s.withCfg { s.cfg with loop := c }) := h.after_withCfg rfl
  have effects := written.after_loopSupplyWritten.after_loopReturnWritten.after_loopAmbientWritten
  effects.after_afterLoopCeiling.after_pumpCheck

omit h in
/-- R185: the lines are driven again where the map is written. -/
theorem linesFollow_writeAlarm (n : Nat) (l : AlarmLine) (s : State) : LinesFollow (writeAlarm n l s) :=
  linesFollow_driveLines _

end Writes

/-- What an accepted entry of a table leaves, the lines follow in. -/
def WriteRules.KeepsLines {ε : Type} (w : WriteRules ε) : Prop :=
  ∀ (i : Nat) (e : ε) (s t : State), LinesFollow s → w.apply i e s = some t → LinesFollow t

theorem cycleRules_keepsLines : cycleRules.KeepsLines := by
  intro i e s t h ht
  simp only [cycleRules, applySlot] at ht
  split at ht
  · cases ht
    exact h.after_writeSlot
  · cases ht

theorem nodeRules_keepsLines : nodeRules.KeepsLines := by
  intro i e s t h ht
  simp only [nodeRules, applyNode] at ht
  split at ht
  · split at ht
    · cases ht
      exact h.after_writeNode
    · cases ht
  · cases ht

theorem sectionRules_keepsLines : sectionRules.KeepsLines := by
  intro i e s t h ht
  simp only [sectionRules, applySection] at ht
  split at ht
  · split at ht
    · cases ht
      exact h.after_writeSection
    · cases ht
  · cases ht

theorem loopRules_keepsLines : loopRules.KeepsLines := by
  intro i e s t h ht
  simp only [loopRules, applyLoop] at ht
  split at ht
  · split at ht
    · cases ht
      exact h.after_writeLoop
    · cases ht
  · cases ht

theorem demandRules_keepsLines : demandRules.KeepsLines := by
  intro i e s t h ht
  simp only [demandRules, applyDemand] at ht
  split at ht
  · split at ht
    · cases ht
      exact h.after_setDemand
    split at ht
    · cases ht
      exact h.after_setDemand
    · cases ht
  split at ht
  · cases ht
    exact h
  · cases ht

theorem holdRules_keepsLines : holdRules.KeepsLines := by
  intro i e s t h ht
  simp only [holdRules, applyHold] at ht
  split at ht
  · cases ht
  split at ht
  · cases ht
    exact h.after_setHold
  split at ht
  · cases ht
    exact h
  · cases ht

theorem alarmRules_keepsLines : alarmRules.KeepsLines := by
  intro i e s t h ht
  simp only [alarmRules, applyAlarm] at ht
  split at ht
  · cases ht
    exact linesFollow_writeAlarm _ _ _
  · cases ht

theorem linkSetRules_keepsLines : linkSetRules.KeepsLines := by
  intro i e s t h ht
  simp only [linkSetRules, applyLinkSet] at ht
  split at ht
  · cases ht
    exact h.after_withCfg rfl
  · cases ht

/-! ## Requests served -/

@[simp] theorem accept_state (code : Byte) (s : State) : (accept code s).1 = s := rfl

section Entries
variable {ε : Type} {w : WriteRules ε} (hw : w.KeepsLines)
include hw

theorem LinesFollow.after_judgeEntry {i : Nat} {e : ε} {s t : State} (h : LinesFollow s)
    (ht : judgeEntry w i e s = .inr t) : LinesFollow t := by
  unfold judgeEntry at ht
  split at ht
  · cases ht
  split at ht
  · cases ht
  split at ht
  · cases ht
  split at ht
  · next happly =>
    cases ht
    exact hw i e s _ h happly
  · cases ht

theorem LinesFollow.after_writeEntries (es : List ε) (i n : Nat) {s : State} (h : LinesFollow s) :
    LinesFollow (writeEntries w es i n s).state := by
  induction es generalizing i n s with
  | nil => exact h
  | cons e es ih =>
    unfold writeEntries
    split
    · exact h
    · next ht => exact ih (i + 1) (n + 1) (h.after_judgeEntry hw ht)

theorem LinesFollow.after_serveWrite {first count : Byte} {entries : List ε} {s : State} (h : LinesFollow s) :
    LinesFollow (serveWrite w first count entries s).1 := by
  unfold serveWrite
  split
  · exact h
  · exact h.after_writeEntries hw entries _ _

theorem LinesFollow.after_serveEntries {len : Nat} {read : List Byte → Option ε} {first count : Byte}
    {octets : List Byte} {s : State} (h : LinesFollow s) :
    LinesFollow (serveEntries w len read first count octets s).1 := by
  unfold serveEntries
  split
  · exact h.after_serveWrite hw
  · exact h

end Entries

section Served
variable {s : State} (h : LinesFollow s)
include h

theorem LinesFollow.after_demandPair {p : Byte × Word} : LinesFollow (demandPair p s) := by
  unfold demandPair
  split
  · exact h.after_setDemand
  · exact h

theorem LinesFollow.after_serveDemand {pairs : List (Byte × Word)} : LinesFollow (serveDemand pairs s).1 := by
  unfold serveDemand
  split
  · exact h
  · exact foldl_keeps (P := LinesFollow) demandPair (fun _ _ k => k.after_demandPair) pairs s h

theorem LinesFollow.after_serveRead {id first count : Byte} : LinesFollow (serveRead id first count s).1 := by
  unfold serveRead
  split
  · exact h
  split
  · exact h
  · exact h

theorem LinesFollow.after_servePass {tag node operation parameter : Byte} {value : Word} :
    LinesFollow (servePass tag node operation parameter value s).1 := by
  unfold servePass
  split
  · exact h
  split
  · exact h
  split
  · exact h
  split
  · exact h
  split
  · exact h
  · exact h.after_postPass

theorem LinesFollow.after_serveStart {slot : Byte} : LinesFollow (serveStart slot s).1 := by
  unfold serveStart
  split
  · exact h.after_startAt
  · exact h.after_startAt
  · exact h
  · exact h

theorem LinesFollow.after_enterStopping : LinesFollow (enterStopping s) := h.after_withSeq

theorem LinesFollow.after_stopRunning : LinesFollow (stopRunning s) := by
  unfold stopRunning
  split
  · exact h.after_enterStopping
  · split
    · exact h.after_clearWindow.after_enterIdle
    · exact h.after_withArb.after_enterStopping
  all_goals exact h.after_enterIdle

theorem LinesFollow.after_stopWalk : LinesFollow (stopWalk s) := by
  unfold stopWalk
  split
  · exact h.after_stopRunning
  all_goals exact h

theorem LinesFollow.after_serveStop : LinesFollow (serveStop s).1 := h.after_stopWalk

theorem LinesFollow.after_serveReports {stream : Byte} : LinesFollow (serveReports stream s).1 := by
  unfold serveReports
  split
  · exact h.after_setStream
  · exact h

theorem LinesFollow.after_serveResume : LinesFollow (serveResume s).1 := by
  unfold serveResume
  split
  · exact h.after_changeMode
  · exact h

theorem LinesFollow.after_serveHold : LinesFollow (serveHold s).1 := by
  unfold serveHold
  split
  · exact h.after_changeMode
  · exact h

theorem LinesFollow.after_serveReviveNode {node : Byte} : LinesFollow (serveReviveNode node s).1 := by
  unfold serveReviveNode
  split
  · exact h
  split
  · exact h
  · exact h.after_nodeGood

theorem LinesFollow.after_serveReviveLane {lane : Byte} : LinesFollow (serveReviveLane lane s).1 := by
  unfold serveReviveLane
  split
  · exact h.after_laneGood
  · exact h

theorem LinesFollow.after_serveFlush {sec : Byte} : LinesFollow (serveFlush sec s).1 := by
  unfold serveFlush
  split
  · exact h
  split
  · exact h
  · exact h.after_postFlush

/-- R184, R186: an acknowledgement drives the lines. -/
theorem LinesFollow.after_serveAck {classes : Word} : LinesFollow (serveAck classes s).1 := by
  unfold serveAck
  split
  · exact h
  · exact linesFollow_clearFlags _ s

theorem LinesFollow.after_endRunningPulse {i : Nat} : LinesFollow (endRunningPulse i s) := by
  unfold endRunningPulse
  split
  · exact h.after_endPulse
  · exact h

theorem LinesFollow.after_resetWalk : LinesFollow (resetWalk s) := by
  unfold resetWalk
  split
  · exact h.after_withSeq
  · exact h.after_enterIdle
  · exact h
  · exact h

theorem LinesFollow.after_fieldReset : LinesFollow (fieldReset s) :=
  have pulses : LinesFollow (forSections endRunningPulse ((abandonExchange s).withArb .powerOn)) :=
    forSections_keeps (fun _ _ k => k.after_endRunningPulse) h.after_abandonExchange.after_withArb
  pulses.after_resetWalk

theorem LinesFollow.after_serveResetField : LinesFollow (serveResetField s).1 := by
  rw [serveResetField, accept_state]
  exact h.after_fieldReset

theorem LinesFollow.after_serveResetLink : LinesFollow (serveResetLink s).1 := by
  unfold serveResetLink
  split
  · exact linesFollow_powerOn _ s
  · exact h.after_linkReset

theorem LinesFollow.after_serveResetFull : LinesFollow (serveResetFull s).1 := h

theorem LinesFollow.after_serveSave : LinesFollow (serveSave s).1 := by
  unfold serveSave
  split
  · next hs => exact h.after_beginSave hs
  · exact h
  · exact h

theorem LinesFollow.after_serveClear : LinesFollow (serveClear s).1 := h.after_clearReports

end Served

/-! ## From a payload to a request -/

section Payload
variable {s : State} (h : LinesFollow s)
include h

theorem LinesFollow.after_serveDemandFrame {payload : List Byte} : LinesFollow (serveDemandFrame payload s).1 := by
  unfold serveDemandFrame
  split
  · exact h.after_serveDemand
  · exact h

theorem LinesFollow.after_serveWriteFrame {payload : List Byte} : LinesFollow (serveWriteFrame payload s).1 := by
  unfold serveWriteFrame
  split
  · split
    · exact h.after_serveEntries cycleRules_keepsLines
    · exact h.after_serveEntries nodeRules_keepsLines
    · exact h.after_serveEntries sectionRules_keepsLines
    · exact h.after_serveEntries loopRules_keepsLines
    · exact h.after_serveEntries demandRules_keepsLines
    · exact h.after_serveEntries holdRules_keepsLines
    · exact h.after_serveEntries alarmRules_keepsLines
    · exact h.after_serveEntries linkSetRules_keepsLines
    · exact h
  · exact h

theorem LinesFollow.after_serveReadFrame {payload : List Byte} : LinesFollow (serveReadFrame payload s).1 := by
  unfold serveReadFrame
  split
  · exact h.after_serveRead
  · exact h

theorem LinesFollow.after_serveRevive {kind target : Byte} : LinesFollow (serveRevive kind target s).1 := by
  unfold serveRevive
  split
  · exact h.after_serveReviveNode
  split
  · exact h.after_serveReviveLane
  · exact h

theorem LinesFollow.after_serveReset {scope : Byte} : LinesFollow (serveReset scope s).1 := by
  unfold serveReset
  split
  · exact h.after_serveResetField
  split
  · exact h.after_serveResetLink
  split
  · exact h.after_serveResetFull
  · exact h

theorem LinesFollow.after_bare {code : Byte} {body : State → Served} {param : List Byte}
    (hb : LinesFollow (body s).1) : LinesFollow (bare code body param s).1 := by
  cases param with
  | nil => exact hb
  | cons _ _ => exact h

theorem LinesFollow.after_oneOctet {code : Byte} {body : Byte → State → Served} {param : List Byte}
    (hb : ∀ p, LinesFollow (body p s).1) : LinesFollow (oneOctet code body param s).1 := by
  unfold oneOctet
  split
  · exact hb _
  · exact h

theorem LinesFollow.after_twoOctets {code : Byte} {body : Byte → Byte → State → Served} {param : List Byte}
    (hb : ∀ p q, LinesFollow (body p q s).1) : LinesFollow (twoOctets code body param s).1 := by
  unfold twoOctets
  split
  · exact hb _ _
  · exact h

theorem LinesFollow.after_serveCommand {code : Byte} {param : List Byte} :
    LinesFollow (serveCommand code param s).1 := by
  unfold serveCommand
  split
  · exact h.after_oneOctet fun _ => h.after_serveStart
  · exact h.after_bare h.after_serveStop
  · exact h.after_oneOctet fun _ => h.after_serveReports
  · exact h.after_bare h.after_serveResume
  · exact h.after_bare h.after_serveHold
  · exact h.after_twoOctets fun _ _ => h.after_serveRevive
  · exact h.after_oneOctet fun _ => h.after_serveFlush
  · exact h.after_twoOctets fun _ _ => h.after_serveAck
  · exact h.after_oneOctet fun _ => h.after_serveReset
  · exact h.after_bare h.after_serveSave
  · exact h.after_bare h.after_serveClear
  · exact h

theorem LinesFollow.after_serveCommandFrame {payload : List Byte} : LinesFollow (serveCommandFrame payload s).1 := by
  unfold serveCommandFrame
  split
  · exact h.after_serveCommand
  · exact h

theorem LinesFollow.after_servePassFrame {tag : Byte} {payload : List Byte} :
    LinesFollow (servePassFrame tag payload s).1 := by
  unfold servePassFrame
  split
  · exact h.after_servePass
  · exact h

theorem LinesFollow.after_whileServed {idle : List Byte} {body : State → Served} (hb : LinesFollow (body s).1) :
    LinesFollow (whileServed idle body s).1 := by
  unfold whileServed
  split
  · exact h
  · exact hb

theorem LinesFollow.after_serveFrame {kind tag : Byte} {payload : List Byte} :
    LinesFollow (serveFrame kind tag payload s).1 := by
  unfold serveFrame
  split
  · exact h.after_whileServed h.after_serveDemandFrame
  split
  · exact h.after_whileServed h.after_serveWriteFrame
  split
  · exact h.after_whileServed h.after_serveReadFrame
  split
  · exact h.after_whileServed h.after_serveCommandFrame
  split
  · exact h.after_whileServed h.after_servePassFrame
  · exact h

/-- R162: a valid frame leaves what its execution leaves, but for the Link Unit and the reports. -/
theorem LinesFollow.after_takeValid {kind tag : Byte} {execute : State → Served}
    (hx : ∀ t, LinesFollow t → LinesFollow (execute t).1) : LinesFollow (takeValid kind tag execute s) := by
  have executed := hx _ h.after_linkTaken
  unfold takeValid
  dsimp only
  split
  · exact h.after_linkTaken.after_discardRequest
  split
  · next heq =>
    rw [heq] at executed
    exact executed.after_respond
  · next heq =>
    rw [heq] at executed
    exact executed

theorem LinesFollow.after_request {kind tag : Byte} {idle : List Byte} {body : State → Served}
    (hb : ∀ t, LinesFollow t → LinesFollow (body t).1) : LinesFollow (request kind tag idle body s) :=
  (h.after_takeValid fun t k => k.after_whileServed (hb t k)).after_finish

end Payload

end Sys2Proof.Machine
end

section
/-! PROOFS. The alarm lines (R186), concluded: the ends of timers and the receiver keep `LinesFollow`, so every command
does, and every step. -/

namespace Sys2Proof.Machine

/-! ## Time and the receiver -/

section Time
variable {s : State} (h : LinesFollow s)
include h

theorem LinesFollow.after_tickPlantTime : LinesFollow (tickPlantTime s) := h.after_withPlantTime.after_withSections

theorem LinesFollow.after_elapse : LinesFollow (elapse s) :=
  h.after_withSeq.after_withArb.after_withXe.after_withLu

theorem LinesFollow.after_waitOver : LinesFollow (waitOver s) := by
  unfold waitOver
  split
  · exact h.after_withSeq.after_goOn
  · exact h

theorem LinesFollow.after_timerAtZero {c : CycleTimer} : LinesFollow (timerAtZero c s) := h.after_withSeq

theorem LinesFollow.after_cycleTimerZero : LinesFollow (cycleTimerZero s) := by
  unfold cycleTimerZero
  split
  · split
    · exact h.after_passMark
    split
    · exact h.after_timerAtZero.after_closeWindow
    · exact h.after_timerAtZero
  · exact h

theorem LinesFollow.after_intervalOver {i : Nat} : LinesFollow (intervalOver i s) := by
  unfold intervalOver
  split
  · exact h.after_intervalExpiry
  · exact h

theorem LinesFollow.after_flushOver {i : Nat} : LinesFollow (flushOver i s) := by
  unfold flushOver
  split
  · exact h.after_pulseCompletes
  · exact h

theorem LinesFollow.after_linkOver : LinesFollow (linkOver s) := by
  unfold linkOver
  split
  · exact linesFollow_loseLink s
  · exact h

theorem LinesFollow.after_frameEnd : LinesFollow (frameEnd s) := by
  unfold frameEnd
  split
  · split
    · exact linesFollow_powerOn _ s
    · exact h.after_withLu
  · exact h

theorem LinesFollow.after_laneCountdownOver {l : Lane} : LinesFollow (laneCountdownOver l s) := by
  unfold laneCountdownOver
  split
  · exact h.after_laneProbeDue
  · exact h

theorem LinesFollow.after_nodeCountdownOver {a : Nat} : LinesFollow (nodeCountdownOver a s) := by
  unfold nodeCountdownOver
  split
  · exact h.after_nodeProbeDue
  · exact h

theorem LinesFollow.after_idleOver : LinesFollow (idleOver s) := h.after_withXe

theorem LinesFollow.after_frameSent : LinesFollow (frameSent s) := h.after_withXe

theorem LinesFollow.after_failIn {p : Phase} {e : TransferError} : LinesFollow (failIn p e s) := by
  unfold failIn
  split
  · split
    · exact h.after_failAttempt
    · exact h
  · exact h

theorem LinesFollow.after_hearOctet {l : Lane} {b : Byte} {bad : Bool} : LinesFollow (hearOctet l b bad s) := by
  unfold hearOctet
  split
  · split
    · split
      · exact h.after_failAttempt
      · exact h.after_takeReplyOctet
    · exact h
  · exact h

theorem LinesFollow.after_abandonFrame {e : RxError} : LinesFollow (abandonFrame e s) := h.after_withLu

theorem LinesFollow.after_setRx {rx : Receiver} : LinesFollow (setRx rx s) := h.after_withLu

theorem LinesFollow.after_takeFrame {kind tag : Byte} {payload : List Byte} :
    LinesFollow (takeFrame kind tag payload s) :=
  (h.after_takeValid fun _ k => k.after_serveFrame).after_finish

end Time

/-- R160, R161: octet by octet, each frame found being taken. -/
theorem LinesFollow.after_feed {closing : Bool} (fuel : Nat) (octets : List Byte) {s : State} (h : LinesFollow s) :
    LinesFollow (feed closing fuel octets s) := by
  induction fuel generalizing octets s with
  | zero => simpa only [feed] using h
  | succ fuel ih =>
    cases octets with
    | nil =>
      unfold feed
      split
      · exact ih _ h.after_setRx
      · exact h
      · exact h
    | cons b rest =>
      unfold feed
      split
      · exact ih _ h.after_setRx
      · exact ih _ h.after_abandonFrame
      · exact ih _ h.after_abandonFrame
      · dsimp only
        split
        · exact h.after_takeFrame
        · exact ih _ h.after_takeFrame

section Receiving
variable {s : State} (h : LinesFollow s)
include h

theorem LinesFollow.after_receive {b : Byte} : LinesFollow (receive b s) := h.after_feed _ _

theorem LinesFollow.after_abandonAndRescan {e : RxError} : LinesFollow (abandonAndRescan e s) :=
  h.after_abandonFrame.after_feed _ _

theorem LinesFollow.after_receiveBad : LinesFollow (receiveBad s) := by
  unfold receiveBad
  split
  · exact h
  · exact h.after_abandonAndRescan

theorem LinesFollow.after_gapExpiry : LinesFollow (gapExpiry s) := by
  unfold gapExpiry
  split
  · exact h
  · exact h.after_abandonAndRescan

/-! ## Every command and every step -/

theorem LinesFollow.after_execReceiverOctet {t : State} {octet : Byte} {charError : Bool}
    (ht : execReceiverOctet octet charError s = .next t) : LinesFollow t := by
  cases ht
  split
  · exact h.after_receiveBad
  · exact h.after_receive

theorem LinesFollow.after_exec {c : Instr} {t : State} (ht : exec c s = .next t) : LinesFollow t := by
  cases c with
  | powerOnReset rateHigh => cases ht; exact (linesFollow_powerOn rateHigh s).after_finish
  | startupReadEnd read => cases ht; exact h.after_startupRead.after_finish
  | plantTimeTick => cases ht; exact h.after_tickPlantTime.after_finish
  | receiverOctet octet charError => exact h.after_execReceiverOctet ht
  | gapTimerExpiry => cases ht; exact h.after_gapExpiry
  | demand tag pairs => cases ht; exact h.after_request fun _ k => k.after_serveDemand
  | tableWriteCycle tag first count entries =>
    cases ht; exact h.after_request fun _ k => k.after_serveWrite cycleRules_keepsLines
  | tableWriteNode tag first count entries =>
    cases ht; exact h.after_request fun _ k => k.after_serveWrite nodeRules_keepsLines
  | tableWriteSection tag first count entries =>
    cases ht; exact h.after_request fun _ k => k.after_serveWrite sectionRules_keepsLines
  | tableWriteLoop tag first count entries =>
    cases ht; exact h.after_request fun _ k => k.after_serveWrite loopRules_keepsLines
  | tableWriteDemand tag first count entries =>
    cases ht; exact h.after_request fun _ k => k.after_serveWrite demandRules_keepsLines
  | tableWriteHold tag first count entries =>
    cases ht; exact h.after_request fun _ k => k.after_serveWrite holdRules_keepsLines
  | tableWriteAlarmMap tag first count entries =>
    cases ht; exact h.after_request fun _ k => k.after_serveWrite alarmRules_keepsLines
  | tableWriteLinkSet tag first count entries =>
    cases ht; exact h.after_request fun _ k => k.after_serveWrite linkSetRules_keepsLines
  | tableRead tag table first count => cases ht; exact h.after_request fun _ k => k.after_serveRead
  | pass tag node operation parameter value => cases ht; exact h.after_request fun _ k => k.after_servePass
  | start tag slot => cases ht; exact h.after_request fun _ k => k.after_serveStart
  | stop tag => cases ht; exact h.after_request fun _ k => k.after_serveStop
  | reports tag stream => cases ht; exact h.after_request fun _ k => k.after_serveReports
  | resume tag => cases ht; exact h.after_request fun _ k => k.after_serveResume
  | hold tag => cases ht; exact h.after_request fun _ k => k.after_serveHold
  | reviveNode tag node => cases ht; exact h.after_request fun _ k => k.after_serveReviveNode
  | reviveLane tag lane => cases ht; exact h.after_request fun _ k => k.after_serveReviveLane
  | flush tag sec => cases ht; exact h.after_request fun _ k => k.after_serveFlush
  | ack tag classes => cases ht; exact h.after_request fun _ k => k.after_serveAck
  | resetField tag => cases ht; exact h.after_request fun _ k => k.after_serveResetField
  | resetLink tag => cases ht; exact h.after_request fun _ k => k.after_serveResetLink
  | resetFull tag => cases ht; exact h.after_request fun _ k => k.after_serveResetFull
  | save tag => cases ht; exact h.after_request fun _ k => k.after_serveSave
  | clear tag => cases ht; exact h.after_request fun _ k => k.after_serveClear
  | idleTimeEnd => cases ht; exact h.after_idleOver.after_finish
  | commandFrameSent => cases ht; exact h.after_frameSent.after_finish
  | responseTimerExpiry => cases ht; exact h.after_failIn.after_finish
  | replyOctet lane octet charError => cases ht; exact h.after_hearOctet.after_finish
  | replyGapExpiry => cases ht; exact h.after_failIn.after_finish
  | replyWindowExpiry => cases ht; exact h.after_failIn.after_finish
  | waitTimerExpiry => cases ht; exact h.after_waitOver.after_finish
  | laneProbeCountdownEnd lane => cases ht; exact h.after_laneCountdownOver.after_finish
  | nodeProbeCountdownEnd node => cases ht; exact h.after_nodeCountdownOver.after_finish
  | minorCycleTimerZero => cases ht; exact h.after_cycleTimerZero.after_finish
  | intervalTimerExpiry sec => cases ht; exact h.after_intervalOver.after_finish
  | flushTimerExpiry sec => cases ht; exact h.after_flushOver.after_finish
  | storeWriteEnd read => cases ht; exact h.after_storeWritten.after_finish
  | linkTimerExpiry => cases ht; exact h.after_linkOver.after_finish
  | fillTimerExpiry => cases ht; exact h.after_fillExpiry.after_finish
  | transmitFrameEnd => cases ht; exact h.after_frameEnd.after_finish

theorem LinesFollow.after_step {t : State} (ht : step s = .next t) : LinesFollow t := by
  unfold step at ht
  split at ht
  · exact h.after_withPending.after_exec ht
  · cases ht
    exact h.after_elapse.after_finish

end Receiving

/-- Settles O56: every line is asserted at reset, where the part is STARTING, and every step keeps `LinesFollow`. -/
theorem alarmLinesFollow : Obligations.AlarmLinesFollow := by
  refine ⟨⟨rfl, rfl, rfl⟩, fun s t h ht => ?_⟩
  have kept : LinesFollow t := LinesFollow.after_step ⟨h⟩ ht
  exact kept.follow

end Sys2Proof.Machine
end

section
/-! PROOFS. What the operations of the part are made of. `Act` lists the elementary updates, each with the condition that
every use of it meets; `Acts al s t` says that `t` is reached from `s` by such updates. One lemma per operation, in the
order of the model, says so; an invariant is then proved by going through the updates once. Beside the state an update
carries the set of the sections whose E and V still wait for their derivation, so that `LimitsDerived` is such an
invariant too. -/

namespace Sys2Proof.Machine

/-! ## The elementary updates -/

/-- What a command may do beyond the work of every command: let the walk move, let the window move, load tables and leave STARTING, end the
writing of the store, count plant time, and take a power-on. -/
structure Allow where
  walk    : Prop
  window  : Prop
  load    : ConfigTables → Prop
  written : Option StoredImage → Prop
  tick    : Prop
  reset   : Prop

/-- A node is named as a fan, a valve or a pump. -/
def RoleAt (s : State) (a : Nat) : Prop :=
  (∃ i, a ∈ (s.secCfg i).fans ∨ (a = (s.secCfg i).valve ∧ a ≠ 0)) ∨ a ∈ s.cfg.loop.pumps

/-- The receiver stands, or drops its octets. -/
def RxKept (r r' : Receiver) : Prop := r' = r ∨ r' = .hunting

/-- The Link Unit places no response, holds no further octet, and keeps its report queue within bounds. -/
structure LinkKept (u u' : LinkUnit) : Prop where
  rx        : RxKept u.rx u'.rx
  responses : u'.responses.length ≤ u.responses.length
  reports   : u'.reports.length ≤ u.reports.length ∨ u'.reports.length ≤ 64

/-- The arbiter's queues lose entries at most, and its window stands but where it may move. -/
structure QueuesKept (al : Allow) (a a' : Arbiter) : Prop where
  frost : a'.frost.Sublist a.frost
  flush : (a'.flush.map FlushRequest.key).Sublist (a.flush.map FlushRequest.key)
  pass  : a'.pass.length ≤ a.pass.length
  probe : a'.probe.Sublist a.probe
  window : (al.walk ∨ al.window) ∨ (a'.window = a.window ∧ a'.due = a.due)

/-- A balance stays within −3 to +7. -/
def BalanceKept (b b' : Int) : Prop := -3 ≤ b → b ≤ 7 → -3 ≤ b' ∧ b' ≤ 7

/-- A section's state but for what E and V derive from, and E and V themselves, is written. -/
structure SectionTended (x x' : SectionState) : Prop where
  ceiling    : x'.ceiling = x.ceiling
  fanCeiling : x'.fanCeiling = x.fanCeiling
  valveFloor : x'.valveFloor = x.valveFloor
  sight      : x'.sight = x.sight
  flow       : x'.flow = x.flow
  balance    : BalanceKept x.balance x'.balance

/-- The store is written outside the end of a SAVE: no valid image comes of it. -/
structure StoreKept (al : Allow) (s : State) (x : Store) : Prop where
  writing : x.state = .writing → x.stored = none
  idle    : x.state = .idle → (x.image = .valid ↔ holdsValid x.stored = true)
  valid   : holdsValid x.stored = true → holdsValid s.store.stored = true
  stored  : ∀ i, x.stored = some i → s.store.stored = some i ∨ al.load i.tables
  copy    : ∀ t, x.copy = some t → s.store.copy = some t ∨ t = s.cfg
  reading : s.Starting → x.state = .reading ∨ ∃ t, al.load t
  starts  : x.state = .reading → s.Starting

/-- The store as the end of a SAVE leaves it. -/
structure StoreWritten (al : Allow) (x : Store) : Prop where
  idle   : x.state = .idle
  image  : x.image = .valid ↔ holdsValid x.stored = true
  stored : al.written x.stored
  copy   : x.copy = none

/-- A node address within the part. -/
def InPart (a : Nat) : Prop := 1 ≤ a ∧ a ≤ 48

/-- One elementary update of the part, beside the set of sections whose E and V wait for their derivation. -/
inductive Act (al : Allow) : Set Nat × State → Set Nat × State → Prop
  | nodes {O s} (x) : Act al (O, s) (O, s.withNodes x)
  | demand {O s} (x) : Act al (O, s) (O, s.withDemand x)
  | xe {O s} (x) : Act al (O, s) (O, s.withXe x)
  | mode {O s} (x) : Act al (O, s) (O, s.withMode x)
  | eu {O s} (x) : Act al (O, s) (O, s.withEu x)
  | seq {O s} (x) : al.walk → Act al (O, s) (O, s.withSeq x)
  | link {O s} (u) : LinkKept s.lu u → Act al (O, s) (O, s.withLu u)
  | queues {O s} (a) : QueuesKept al s.arb a → Act al (O, s) (O, s.withArb a)
  | postFrost {O s} (a) : RoleAt s a → Act al (O, s) (O, postFrost a s)
  | postFlush {O s} (r) : r.sec < 8 → Act al (O, s) (O, postFlush r s)
  | postPass {O s} (r) : Act al (O, s) (O, postPass r s)
  | postProbe {O s} (t) : (∀ a, t = .node a → InPart a) → Act al (O, s) (O, postProbe t s)
  | tables {O s} (c) : c.sections = s.cfg.sections →
      (c.loop.pumps = s.cfg.loop.pumps ∨ ∀ a ∈ c.loop.pumps, InPart a) → Act al (O, s) (O, s.withCfg c)
  | sectionTable {O s} (i c) : c.valve ≤ 48 → (∀ a ∈ c.fans, InPart a) →
      Act al (O, s) (insert i O, writeSectionCfg i c s)
  | tend {O s} (i x) : SectionTended (s.sec i) x → Act al (O, s) (O, s.setSec i x)
  | touch {O s} (i x) : x.ceiling ≤ 1000 ∨ x.ceiling ≤ (s.sec i).ceiling → BalanceKept (s.sec i).balance x.balance →
      Act al (O, s) (insert i O, s.setSec i x)
  | derive {O s} (i) : Act al (insert i O, s) (O, derive i s)
  | loop {O s} (l) : l.ceiling = s.loop.ceiling → Act al (O, s) (O, s.withLoop l)
  | loopCeiling {O s} (l) : l.ceiling ≤ 1000 ∨ l.ceiling ≤ s.loop.ceiling → Act al (O, s) (Set.univ, s.withLoop l)
  | wait {O O' s} : (∀ i, i < 8 → i ∈ O → i ∈ O') → Act al (O, s) (O', s)
  | load {O s} (t) : s.Starting → al.load t →
      Act al (O, s) (Set.univ, (s.withCfg t).withLoop (.powerOn t.loop.supply))
  | store {O s} (x) : StoreKept al s x → Act al (O, s) (O, s.withStore x)
  | written {O s} (x) : s.store.state = .writing → StoreWritten al x → Act al (O, s) (O, s.withStore x)
  | tick {O s} : al.tick → Act al (O, s) (O, tickPlantTime s)
  | powerOn {O s} (pin) : al.reset → Act al (O, s) (O, powerOn pin s)

/-- `t` is reached from `s` by elementary updates, with the sections that wait for their derivation as they were. -/
structure Acts (al : Allow) (s t : State) : Prop where
  reach : ∀ O, Relation.ReflTransGen (Act al) (O, s) (O, t)

/-- The same for work on section `i`, which waits for its derivation before and after. -/
structure Works (al : Allow) (i : Nat) (s t : State) : Prop where
  reach : ∀ O, Relation.ReflTransGen (Act al) (insert i O, s) (insert i O, t)

section Closure
variable {al : Allow} {s t u : State}

theorem Acts.refl (s : State) : Acts al s s := ⟨fun _ => .refl⟩

theorem Acts.trans (h : Acts al s t) (k : Acts al t u) : Acts al s u := ⟨fun O => (h.reach O).trans (k.reach O)⟩

theorem Acts.of (h : ∀ O, Act al (O, s) (O, t)) : Acts al s t := ⟨fun O => .single (h O)⟩

theorem Works.refl (i : Nat) (s : State) : Works al i s s := ⟨fun _ => .refl⟩

theorem Works.trans {i : Nat} (h : Works al i s t) (k : Works al i t u) : Works al i s u :=
  ⟨fun O => (h.reach O).trans (k.reach O)⟩

theorem Acts.works (h : Acts al s t) (i : Nat) : Works al i s t := ⟨fun O => h.reach (insert i O)⟩

/-- A section whose state is written waits for its derivation. -/
theorem works_setSec (i : Nat) {x : SectionState} (hc : x.ceiling ≤ 1000 ∨ x.ceiling ≤ (s.sec i).ceiling)
    (hb : BalanceKept (s.sec i).balance x.balance) : Works al i s (s.setSec i x) :=
  ⟨fun O => by simpa using Relation.ReflTransGen.single (Act.touch (al := al) (O := insert i O) i x hc hb)⟩

/-- Work that changes neither the ceiling of the section nor its balance. -/
theorem works_setSec_kept (i : Nat) {x : SectionState} (hc : x.ceiling = (s.sec i).ceiling)
    (hb : x.balance = (s.sec i).balance) : Works al i s (s.setSec i x) :=
  works_setSec i (.inr hc.le) fun h k => by rw [hb]; exact ⟨h, k⟩

/-- Work on a section that its derivation closes. -/
theorem Works.derived {i : Nat} (h : Works al i s t) : Acts al s (derive i t) where
  reach O := ((Relation.ReflTransGen.single (Act.wait fun _ _ hj => Set.mem_insert_of_mem i hj)).trans
    (h.reach O)).tail (Act.derive i)

theorem BalanceKept.refl (b : Int) : BalanceKept b b := fun h k => ⟨h, k⟩

theorem RxKept.refl (r : Receiver) : RxKept r r := .inl rfl

theorem LinkKept.refl (u : LinkUnit) : LinkKept u u := ⟨.refl _, le_rfl, .inl le_rfl⟩

theorem QueuesKept.refl (a : Arbiter) : QueuesKept al a a := ⟨.refl _, .refl _, le_rfl, .refl _, .inr ⟨rfl, rfl⟩⟩

end Closure

/-! ## Updates of one block -/

section Updates
variable {al : Allow} (s : State)

theorem acts_withNodes (x) : Acts al s (s.withNodes x) := .of fun _ => .nodes x
theorem acts_withDemand (x) : Acts al s (s.withDemand x) := .of fun _ => .demand x
theorem acts_withXe (x) : Acts al s (s.withXe x) := .of fun _ => .xe x
theorem acts_withMode (x) : Acts al s (s.withMode x) := .of fun _ => .mode x
theorem acts_withEu (x) : Acts al s (s.withEu x) := .of fun _ => .eu x
theorem acts_withSeq (hw : al.walk) (x) : Acts al s (s.withSeq x) := .of fun _ => .seq x hw

variable {s}
theorem acts_withLu {u : LinkUnit} (h : LinkKept s.lu u) : Acts al s (s.withLu u) := .of fun _ => .link u h
theorem acts_withArb {a : Arbiter} (h : QueuesKept al s.arb a) : Acts al s (s.withArb a) := .of fun _ => .queues a h

theorem acts_withCfg {c : ConfigTables} (hs : c.sections = s.cfg.sections) (hl : c.loop = s.cfg.loop) :
    Acts al s (s.withCfg c) := .of fun _ => .tables c hs (.inl (by rw [hl]))

theorem acts_withLoop {l : LoopState} (h : l.ceiling = s.loop.ceiling) : Acts al s (s.withLoop l) := .of fun _ => .loop l h

theorem acts_setSec {i : Nat} {x : SectionState} (h : SectionTended (s.sec i) x) : Acts al s (s.setSec i x) :=
  .of fun _ => .tend i x h

variable (s)
theorem acts_setNode (a : Nat) (n : NodeState) : Acts al s (s.setNode a n) := by
  unfold State.setNode
  split
  · exact .refl s
  · exact acts_withNodes s _

theorem acts_setDemand (a : Nat) (d : Option Nat) : Acts al s (s.setDemand a d) := by
  unfold State.setDemand
  split
  · exact .refl s
  · exact acts_withDemand s _

theorem acts_setHold (a h : Nat) : Acts al s (s.setHold a h) := by
  unfold State.setHold
  split
  · exact .refl s
  · exact acts_withCfg rfl rfl

theorem acts_setLane (l : Lane) (x : LaneState) : Acts al s (s.setLane l x) := by
  cases l <;> exact acts_withXe s _

/-- Window, pointers and the decision that is due are written. -/
theorem acts_window (h : al.walk ∨ al.window) (w : Window) (d : Bool) :
    Acts al s (s.withArb { s.arb with window := w, due := d }) := acts_withArb ⟨.refl _, .refl _, le_rfl, .refl _, .inl h⟩

end Updates

/-! ## Flags, reports and events -/

section Reports
variable {al : Allow}

theorem acts_driveLines (s : State) : Acts al s (driveLines s) := by
  unfold driveLines
  split <;> exact acts_withEu s _

theorem acts_setFlag (c : EventClass) (s : State) : Acts al s (setFlag c s) :=
  (acts_withEu s _).trans (acts_driveLines _)

theorem acts_clearFlags (c : BitVec 12) (s : State) : Acts al s (clearFlags c s) :=
  (acts_withEu s _).trans (acts_driveLines _)

/-- The report queue and the loss count are written, with the queue no longer than it may be. -/
theorem acts_reports (s : State) (rs : List Report) (n : Nat)
    (h : rs.length ≤ s.lu.reports.length ∨ rs.length ≤ 64) :
    Acts al s (s.withLu { s.lu with reports := rs, losses := n }) := acts_withLu ⟨.refl _, le_rfl, h⟩

theorem acts_countLoss (s : State) : Acts al s (countLoss s) := by
  unfold countLoss
  dsimp only
  have h := acts_reports (al := al) s s.lu.reports (satSucc 65535 s.lu.losses) (.inl le_rfl)
  split
  · exact h
  · exact h.trans (acts_setFlag _ _)

theorem acts_queueReport (r : Report) (s : State) : Acts al s (queueReport r s) := by
  unfold queueReport
  split
  · exact .refl s
  split
  · next h =>
    refine acts_reports s _ _ (.inr ?_)
    unfold reportCapacity at h
    simp only [List.length_append, List.length_singleton]
    omega
  split
  · exact acts_countLoss s
  split
  · next h =>
    refine Acts.trans (acts_reports s _ s.lu.losses (.inl ?_)) (acts_countLoss _)
    obtain ⟨x, hx, hs⟩ := List.any_eq_true.mp h
    have := List.length_eraseP_of_mem hx hs
    have := List.length_pos_of_mem hx
    simp only [dropOldestSample, withLu_lu, List.length_append, List.length_singleton]
    omega
  · exact acts_countLoss s

theorem acts_raise (c : EventClass) (x : Subject) (d : Byte) (s : State) : Acts al s (raise c x d s) := by
  unfold raise
  dsimp only
  split
  · exact acts_setFlag c s
  · exact (acts_setFlag c s).trans (acts_queueReport _ _)

theorem acts_inform (c : InfoClass) (x : Subject) (d : Byte) (s : State) : Acts al s (inform c x d s) :=
  acts_queueReport _ s

end Reports

/-! ## Queues -/

section Queues
variable {al : Allow} {s : State}

theorem acts_postFrost {a : Nat} (h : RoleAt s a) : Acts al s (postFrost a s) := .of fun _ => .postFrost a h

theorem acts_postFlush {r : FlushRequest} (h : r.sec < 8) : Acts al s (postFlush r s) := .of fun _ => .postFlush r h

theorem acts_postPass (r : PassRequest) : Acts al s (postPass r s) := .of fun _ => .postPass r

theorem acts_postProbe_node {a : Nat} (h : InPart a) : Acts al s (postProbe (.node a) s) :=
  .of fun _ => .postProbe _ fun _ hb => by cases hb; exact h

theorem acts_postProbe_lane (l : Lane) : Acts al s (postProbe (.lane l) s) :=
  .of fun _ => .postProbe _ fun _ hb => nomatch hb

theorem acts_removeFrost (a : Nat) (s : State) : Acts al s (removeFrost a s) :=
  acts_withArb ⟨List.filter_sublist, .refl _, le_rfl, .refl _, .inr ⟨rfl, rfl⟩⟩

theorem acts_removeProbe (t : ProbeTarget) (s : State) : Acts al s (removeProbe t s) :=
  acts_withArb ⟨.refl _, .refl _, le_rfl, List.filter_sublist, .inr ⟨rfl, rfl⟩⟩

end Queues

/-! ## Frost Guard -/

/-- A post touches the arbiter alone. -/
theorem postFrost_eq (a : Nat) (s : State) : ∃ x, postFrost a s = s.withArb x := by
  unfold postFrost
  split
  · exact ⟨s.arb, rfl⟩
  · exact ⟨_, rfl⟩

theorem checkFan_eq (i a : Nat) (s : State) : ∃ x, checkFan i a s = s.withArb x := by
  unfold checkFan
  split
  · exact postFrost_eq a s
  · exact ⟨s.arb, rfl⟩

theorem checkValve_eq (i a : Nat) (s : State) : ∃ x, checkValve i a s = s.withArb x := by
  unfold checkValve
  split
  · exact postFrost_eq a s
  · exact ⟨s.arb, rfl⟩

theorem checkPump_eq (a : Nat) (s : State) : ∃ x, checkPump a s = s.withArb x := by
  unfold checkPump
  split
  · exact postFrost_eq a s
  · exact ⟨s.arb, rfl⟩

/-- Checks made one after the other touch the arbiter alone. -/
theorem foldl_eq_withArb {f : Nat → State → State} (h : ∀ a s, ∃ x, f a s = s.withArb x) (as : List Nat) (s : State) :
    ∃ x, as.foldl (fun t a => f a t) s = s.withArb x :=
  foldl_keeps (P := fun t => ∃ x, t = s.withArb x) f
    (fun a t ⟨x, hx⟩ => by obtain ⟨y, hy⟩ := h a t; exact ⟨y, by rw [hy, hx]; rfl⟩) as s ⟨s.arb, rfl⟩

section Frost
variable {al : Allow} {s : State}

theorem acts_checkFan {i a : Nat} (h : RoleAt s a) : Acts al s (checkFan i a s) := by
  unfold checkFan
  split
  · exact acts_postFrost h
  · exact .refl s

theorem acts_checkValve (i j : Nat) (s : State) : Acts al s (checkValve i (s.secCfg j).valve s) := by
  unfold checkValve
  split
  · next h => exact acts_postFrost (.inl ⟨j, .inr ⟨rfl, h.1⟩⟩)
  · exact .refl s

theorem acts_checkPump {a : Nat} (h : RoleAt s a) : Acts al s (checkPump a s) := by
  unfold checkPump
  split
  · exact acts_postFrost h
  · exact .refl s

/-- Checks of nodes that have a role, made one after the other. -/
theorem acts_checks {f : Nat → State → State} (hf : ∀ a s, ∃ x, f a s = s.withArb x)
    (hr : ∀ a s, RoleAt s a → Acts al s (f a s)) (as : List Nat) (s : State) (h : ∀ a ∈ as, RoleAt s a) :
    Acts al s (as.foldl (fun t a => f a t) s) := by
  induction as generalizing s with
  | nil => exact .refl s
  | cons a as ih =>
    refine (hr a s (h a List.mem_cons_self)).trans (ih _ fun b hb => ?_)
    obtain ⟨x, hx⟩ := hf a s
    rw [hx]
    exact h b (List.mem_cons_of_mem a hb)

theorem acts_overrideCheck (i : Nat) (s : State) : Acts al s (overrideCheck i s) := by
  have fans : ∀ a ∈ (s.secCfg i).fans, RoleAt s a := fun a ha => .inl ⟨i, .inl ha⟩
  refine (acts_checks (checkFan_eq i) (fun _ _ => acts_checkFan) _ s fans).trans ?_
  obtain ⟨x, hx⟩ := foldl_eq_withArb (checkFan_eq i) (s.secCfg i).fans s
  rw [overrideCheck, hx]
  exact acts_checkValve i i (s.withArb x)

theorem acts_pumpCheck (s : State) : Acts al s (pumpCheck s) :=
  acts_checks checkPump_eq (fun _ _ => acts_checkPump) _ s fun _ ha => .inr ha

/-- Work on a section, closed by its derivation and override check. -/
theorem Works.checked {i : Nat} {t : State} (h : Works al i s t) : Acts al s (deriveAndCheck i t) :=
  h.derived.trans (acts_overrideCheck i _)

theorem acts_checkNode (a : Nat) (s : State) : Acts al s (checkNode a s) := by
  unfold checkNode
  split
  · next i h =>
    have hi := List.find?_some h
    simp only [Bool.and_eq_true, List.contains_iff_mem] at hi
    exact acts_checkFan (.inl ⟨i, .inl hi.2⟩)
  split
  · next i h =>
    have hi := List.find?_some h
    simp only [Bool.and_eq_true, decide_eq_true_eq, beq_iff_eq] at hi
    rw [← hi.2]
    exact acts_checkValve i i s
  split
  · next h =>
    simp only [State.isPump, Bool.and_eq_true, List.contains_iff_mem] at h
    exact acts_checkPump (.inr h.2)
  · exact .refl s

/-! ### Arrivals -/

theorem rawCeiling_le (h : Int) (b : Nat) : rawCeiling h b ≤ 1000 := by
  unfold rawCeiling
  split
  · omega
  split
  · omega
  · exact Nat.div_le_of_le_mul (by rw [Nat.mul_comm]; exact Nat.mul_le_mul_right _ (by omega))

theorem limitRise_le (raw prev rise : Nat) : limitRise raw prev rise ≤ raw := by
  unfold limitRise
  split <;> omega

theorem newCeiling_le (c : SectionCfg) (x : SectionState) (f v : Int) : newCeiling c x f v ≤ 1000 :=
  (limitRise_le ..).trans (rawCeiling_le ..)

theorem newLoopCeiling_le (c : LoopCfg) (p : Nat) (v : Int) : newLoopCeiling c p v ≤ 1000 :=
  (limitRise_le ..).trans (rawCeiling_le ..)

theorem acts_sectionArrival (i : Nat) (v : Int) (s : State) : Acts al s (sectionArrival i v s) := by
  unfold sectionArrival
  dsimp only
  have h (x : SectionState) (hc : x.ceiling ≤ 1000) (hb : x.balance = (s.sec i).balance) :
      Acts al s (deriveAndCheck i (s.setSec i x)) :=
    (works_setSec i (.inl hc) (by rw [hb]; exact .refl _)).checked
  split
  · exact (h _ (by exact newCeiling_le ..) (by rfl)).trans (acts_raise ..)
  · exact h _ (newCeiling_le ..) rfl

/-- Sections that wait are derived and checked one after the other. -/
theorem reach_deriveAndCheck (is : List Nat) (O : Set Nat) (s : State) :
    Relation.ReflTransGen (Act al) (O ∪ {i | i ∈ is}, s) (O, is.foldl (fun t i => deriveAndCheck i t) s) := by
  induction is generalizing s with
  | nil => simpa using Relation.ReflTransGen.refl
  | cons i is ih =>
    have hO : O ∪ {j | j ∈ i :: is} = insert i (O ∪ {j | j ∈ is}) := by
      ext j
      simp only [Set.mem_union, Set.mem_ofPred_eq, List.mem_cons, Set.mem_insert_iff]
      tauto
    rw [hO]
    exact ((Relation.ReflTransGen.single (Act.derive i)).trans ((acts_overrideCheck i _).reach _)).trans (ih _)

/-- With every section waiting, all are derived. -/
theorem reach_deriveAll (O : Set Nat) (s : State) :
    Relation.ReflTransGen (Act al) (Set.univ, s) (O, forSections deriveAndCheck s) := by
  refine .trans (.single (Act.wait fun i hi _ => ?_)) (reach_deriveAndCheck sectionNumbers O s)
  exact .inr (by simpa [sectionNumbers] using hi)

/-- The loop ceiling is written, and where it has changed every section is derived and checked. -/
theorem acts_loopCeiling {l : LoopState} (h : l.ceiling ≤ 1000 ∨ l.ceiling ≤ s.loop.ceiling) :
    Acts al s (afterLoopCeiling s.loop.ceiling (s.withLoop l)) := by
  unfold afterLoopCeiling
  split
  · exact ⟨fun O => .trans (.single (.loopCeiling l h)) (reach_deriveAll O _)⟩
  · next hl => exact acts_withLoop (not_not.mp hl)

theorem acts_supplyArrival (v : Int) (s : State) : Acts al s (supplyArrival v s) := by
  unfold supplyArrival
  dsimp only
  have h := acts_loopCeiling (al := al) (s := s)
    (l := { s.loop with supplySight := .seen, ceiling := newLoopCeiling s.cfg.loop s.loop.ceiling v })
    (.inl (newLoopCeiling_le ..))
  split
  · exact h.trans (acts_raise ..)
  · exact h

/-! ### Sight -/

theorem acts_enterBlind (i : Nat) (s : State) : Acts al s (enterBlind i s) := by
  unfold enterBlind
  refine Acts.trans ?_ (acts_raise ..)
  exact Works.checked (works_setSec i (.inr (Nat.min_le_left _ _)) (.refl _))

theorem acts_enterStale (i : Nat) (s : State) : Acts al s (enterStale i s) :=
  (works_setSec_kept i (by rfl) (by rfl)).checked

theorem acts_markSection (i : Nat) (s : State) : Acts al s (markSection i s) := by
  unfold markSection
  dsimp only
  split
  · split
    · exact .refl s
    split
    · exact acts_enterBlind i s
    split
    · exact acts_enterStale i s
    · exact .refl s
  · exact .refl s

theorem acts_supplyBlind (s : State) : Acts al s (supplyBlind s) := by
  unfold supplyBlind
  refine Acts.trans ?_ (acts_raise ..)
  exact acts_loopCeiling (.inr (Nat.min_le_left _ _))

theorem acts_markSupply (s : State) : Acts al s (markSupply s) := by
  unfold markSupply
  dsimp only
  split
  · exact .refl s
  split
  · exact .refl s
  split
  · exact acts_supplyBlind s
  · exact acts_withLoop rfl

theorem acts_markTransient (i : Nat) (s : State) : Acts al s (markTransient i s) := by
  unfold markTransient
  split
  · exact acts_setSec (by exact ⟨rfl, rfl, rfl, rfl, rfl, .refl _⟩)
  · exact .refl s

theorem acts_forSections {f : Nat → State → State} (h : ∀ i s, Acts al s (f i s)) (s : State) :
    Acts al s (forSections f s) :=
  forSections_keeps (P := Acts al s) (fun i t k => k.trans (h i t)) (.refl s)

/-- A rule goes through list members only. -/
theorem acts_foldl {f : Nat → State → State} {as : List Nat} (h : ∀ a ∈ as, ∀ s, Acts al s (f a s)) (s : State) :
    Acts al s (as.foldl (fun t a => f a t) s) := by
  induction as generalizing s with
  | nil => exact .refl s
  | cons a as ih =>
    exact (h a List.mem_cons_self s).trans (ih (fun b hb => h b (List.mem_cons_of_mem a hb)) _)

theorem mem_sectionNumbers {i : Nat} : i ∈ sectionNumbers ↔ i < 8 := by simp [sectionNumbers]

theorem mem_nodeAddresses {a : Nat} : a ∈ nodeAddresses ↔ 1 ≤ a ∧ a ≤ 48 := by
  simp only [nodeAddresses, List.mem_range'_1]
  omega

theorem acts_eachSection {f : Nat → State → State} (h : ∀ i s, i < 8 → Acts al s (f i s)) (s : State) :
    Acts al s (forSections f s) := acts_foldl (fun i hi s => h i s (mem_sectionNumbers.mp hi)) s

theorem acts_eachNode {f : Nat → State → State} (h : ∀ a s, InPart a → Acts al s (f a s)) (s : State) :
    Acts al s (forNodes f s) := acts_foldl (fun a ha s => h a s (mem_nodeAddresses.mp ha)) s

theorem acts_markReturnAmbient (s : State) : Acts al s (markReturnAmbient s) := acts_withLoop rfl

theorem acts_frostMark (s : State) : Acts al s (frostMark s) :=
  (((acts_forSections acts_markSection s).trans (acts_markSupply _)).trans
    (acts_markReturnAmbient _)).trans (acts_forSections acts_markTransient _)

/-! ### Drives -/

theorem acts_countClamp (a : Nat) (s : State) : Acts al s (countClamp a s) := by
  unfold countClamp
  split
  · exact acts_setSec (by exact ⟨rfl, rfl, rfl, rfl, rfl, .refl _⟩)
  · exact .refl s

theorem acts_startTransient (a : Nat) (prev new : Option Nat) (s : State) : Acts al s (startTransient a prev new s) := by
  unfold startTransient
  split
  · split
    · exact .refl s
    · exact acts_setSec (by exact ⟨rfl, rfl, rfl, rfl, rfl, .refl _⟩)
  · exact .refl s

theorem acts_frostTakesDrive (a : Nat) (prev new : Option Nat) (s : State) :
    Acts al s (frostTakesDrive a prev new s) := (acts_startTransient a prev new s).trans (acts_checkNode a _)

end Frost

/-! ## Flush Accounting -/

section Flush
variable {al : Allow}

theorem acts_startInterval (i : Nat) (s : State) : Acts al s (startInterval i s) :=
  acts_setSec (by exact ⟨rfl, rfl, rfl, rfl, rfl, .refl _⟩)

theorem acts_setFlow (i : Nat) (f : Flow) (s : State) : Acts al s (setFlow i f s) := by
  unfold setFlow
  split
  · exact .refl s
  · exact (works_setSec_kept i (by rfl) (by rfl)).checked

theorem acts_judgeFlow (i : Nat) (s : State) : Acts al s (judgeFlow i s) := acts_setFlow i _ s

theorem acts_endPulse (i : Nat) (s : State) : Acts al s (endPulse i s) :=
  (acts_setSec (by exact ⟨rfl, rfl, rfl, rfl, rfl, .refl _⟩)).trans (acts_judgeFlow i _)

theorem acts_flushTakesDrive (a : Nat) (s : State) : Acts al s (flushTakesDrive a s) := by
  unfold flushTakesDrive
  split
  · split
    · exact .refl s
    · exact acts_judgeFlow _ s
  · exact .refl s

/-- R55: an expiry keeps a balance within bounds. -/
theorem balanceAtExpiry_kept (f : Flow) (b : Int) : BalanceKept b (balanceAtExpiry f b) := by
  intro h k
  unfold balanceAtExpiry
  split <;> omega

theorem acts_intervalExpiry (i : Nat) (s : State) : Acts al s (intervalExpiry i s) := by
  unfold intervalExpiry
  dsimp only
  refine Acts.trans ?_ (acts_startInterval i _)
  have h (n : Nat) : Acts al s (s.setSec i { s.sec i with
      balance := balanceAtExpiry (s.sec i).flow (s.sec i).balance, overdues := n }) :=
    acts_setSec (by exact ⟨rfl, rfl, rfl, rfl, rfl, balanceAtExpiry_kept _ _⟩)
  split
  · exact (h _).trans (acts_raise ..)
  · exact h _

theorem acts_reportBlocked (i : Nat) (s : State) : Acts al s (reportBlocked i s) := by
  unfold reportBlocked
  split
  · exact .refl s
  · exact (acts_setSec (by exact ⟨rfl, rfl, rfl, rfl, rfl, .refl _⟩)).trans (acts_raise ..)

theorem acts_markFlush (i : Nat) (s : State) (hi : i < 8) : Acts al s (markFlush i s) := by
  unfold markFlush
  dsimp only
  split
  · exact .refl s
  split
  · split
    · exact acts_postFlush hi
    · exact .refl s
  split
  · exact acts_reportBlocked i s
  · exact acts_postFlush hi

theorem acts_flushMark (s : State) : Acts al s (flushMark s) := acts_eachSection acts_markFlush s

theorem acts_flushGrantSkipped (r : FlushRequest) (s : State) : Acts al s (flushGrantSkipped r s) := by
  unfold flushGrantSkipped
  split
  · split
    · exact acts_reportBlocked _ s
    · exact .refl s
  · exact .refl s

theorem acts_pulseBegins (i : Nat) (s : State) : Acts al s (pulseBegins i s) :=
  (acts_setSec (by exact ⟨rfl, rfl, rfl, rfl, rfl, .refl _⟩)).trans (acts_setFlow i _ _)

theorem acts_flushStartResult (i node : Nat) (success : Bool) (s : State) :
    Acts al s (flushStartResult i node success s) := by
  unfold flushStartResult
  split
  · exact acts_pulseBegins i s
  · exact .refl s

theorem acts_pulseCompletes (i : Nat) (s : State) (hi : i < 8) : Acts al s (pulseCompletes i s) := by
  have falls : BalanceKept (s.sec i).balance (max (-3) ((s.sec i).balance - 1)) := fun _ _ => by omega
  exact ((acts_setSec (by exact ⟨rfl, rfl, rfl, rfl, rfl, falls⟩)).trans (acts_setFlow i _ _)).trans (acts_postFlush hi)

end Flush

/-! ## Node Table, and the health of nodes and lanes -/

section Nodes
variable {al : Allow}

theorem acts_handArrival (a : Nat) (v : Int) (s : State) : Acts al s (handArrival a v s) := by
  unfold handArrival
  split
  · split
    · exact acts_sectionArrival _ v s
    · exact .refl s
  split
  · exact acts_supplyArrival v s
  split
  · exact acts_withLoop rfl
  split
  · exact acts_withLoop rfl
  · exact .refl s

theorem acts_handDrive (a : Nat) (prev new : Option Nat) (s : State) : Acts al s (handDrive a prev new s) :=
  (acts_flushTakesDrive a s).trans (acts_frostTakesDrive a prev new _)

theorem acts_takeReply (r : ExchangeResult) (p : Reply) (s : State) : Acts al s (takeReply r p s) := by
  unfold takeReply
  extract_lets a c prev t u w
  have ht : Acts al s t := acts_setNode s _ _
  have hu : Acts al s u := by
    unfold u
    split
    · exact ht.trans (acts_queueReport _ _)
    · exact ht
  have hw : Acts al s w := by
    unfold w
    split
    · exact hu.trans (acts_handDrive ..)
    · exact hu
  split
  · exact hw.trans (acts_handArrival ..)
  · exact hw

theorem acts_ageNode (a : Nat) (s : State) : Acts al s (ageNode a s) := by
  unfold ageNode
  split
  · exact .refl s
  · exact acts_setNode s a _

theorem acts_nodeMark (s : State) : Acts al s (nodeMark s) := acts_eachNode (fun a s _ => acts_ageNode a s) s

theorem acts_nodeActive (a : Nat) (report : Bool) (s : State) : Acts al s (nodeActive a report s) := by
  unfold nodeActive
  dsimp only
  have h (n : NodeState) : Acts al s (removeProbe (.node a) (s.setNode a n)) :=
    (acts_setNode s a n).trans (acts_removeProbe _ _)
  split
  · exact ((h _).trans (acts_inform ..)).trans (acts_checkNode a _)
  · exact (h _).trans (acts_checkNode a _)

theorem acts_nodeGood (a : Nat) (s : State) : Acts al s (nodeGood a s) := by
  unfold nodeGood
  split
  · exact acts_nodeActive a true s
  · exact acts_setNode s a _

theorem acts_nodeSilenced (a : Nat) (s : State) : Acts al s (nodeSilenced a s) :=
  ((acts_setNode s a _).trans (acts_raise ..)).trans (acts_removeFrost a _)

theorem acts_nodeFailed (a : Nat) (s : State) : Acts al s (nodeFailed a s) := by
  unfold nodeFailed
  split
  · exact acts_nodeSilenced a s
  · exact acts_setNode s a _

theorem acts_healthStage (r : ExchangeResult) (s : State) : Acts al s (healthStage r s) := by
  unfold healthStage
  split
  · exact acts_nodeGood _ s
  · exact .refl s
  · exact .refl s
  · split
    · exact acts_nodeFailed _ s
    · exact .refl s

theorem acts_laneUp (l : Lane) (s : State) : Acts al s (laneUp l s) :=
  ((acts_setLane s l _).trans (acts_inform ..)).trans (acts_removeProbe _ _)

theorem acts_laneGood (l : Lane) (s : State) : Acts al s (laneGood l s) := by
  unfold laneGood
  split
  · exact acts_laneUp l s
  · exact acts_setLane s l _

theorem acts_attemptSucceeded (l : Lane) (a : Nat) (s : State) : Acts al s (attemptSucceeded l a s) :=
  (acts_withXe s _).trans (acts_laneGood l _)

theorem acts_attemptFailed (l : Lane) (e : TransferError) (s : State) : Acts al s (attemptFailed l e s) := by
  unfold attemptFailed
  dsimp only
  split
  · exact (acts_setLane s l _).trans (acts_raise ..)
  · exact acts_setLane s l _

theorem acts_laneProbeDue (l : Lane) (s : State) : Acts al s (laneProbeDue l s) :=
  (acts_setLane s l _).trans (acts_postProbe_lane l)

theorem acts_markLane (l : Lane) (s : State) : Acts al s (markLane l s) := by
  unfold markLane
  split
  · exact .refl s
  split
  · exact acts_laneProbeDue l s
  · exact acts_setLane s l _

theorem acts_nodeProbeDue (a : Nat) (s : State) (ha : InPart a) : Acts al s (nodeProbeDue a s) :=
  (acts_setNode s a _).trans (acts_postProbe_node ha)

theorem acts_markNodeProbe (a : Nat) (s : State) (ha : InPart a) : Acts al s (markNodeProbe a s) := by
  unfold markNodeProbe
  split
  · exact .refl s
  split
  · exact acts_nodeProbeDue a s ha
  · exact acts_setNode s a _

theorem acts_probeMark (s : State) : Acts al s (probeMark s) :=
  ((acts_markLane .a s).trans (acts_markLane .b _)).trans (acts_eachNode acts_markNodeProbe _)

/-- R109: all that a cycle mark does, the walk standing. -/
theorem acts_announceMark (s : State) : Acts al s (announceMark s) :=
  (((acts_nodeMark s).trans (acts_frostMark _)).trans (acts_flushMark _)).trans (acts_probeMark _)

end Nodes

end Sys2Proof.Machine
end

section
/-! PROOFS. What the operations are made of, continued: the walk, the exchanges, the arbiter, the plant link, the store and
the entries of a TABLE_WRITE. -/

namespace Sys2Proof.Machine

/-! ## The walk's own moves and windows -/

section Walk
variable {al : Allow}

theorem acts_clearWindow (h : al.walk ∨ al.window) (s : State) : Acts al s (clearWindow s) := acts_window s h _ _

variable (hw : al.walk)
include hw

theorem acts_enterIdle (s : State) : Acts al s (enterIdle s) := acts_withSeq s hw _

theorem acts_halt (c : HaltCause) (s : State) : Acts al s (halt c s) := by
  unfold halt
  exact (acts_withSeq s hw _).trans (acts_raise ..)

theorem acts_goTo (i : Nat) (s : State) : Acts al s (goTo i s) := acts_withSeq s hw _

theorem acts_goOn (s : State) : Acts al s (goOn s) := acts_withSeq s hw _

theorem acts_closeWindow (s : State) : Acts al s (closeWindow s) := by
  have h : Acts al s (clearWindow s) := acts_clearWindow (.inl hw) s
  unfold closeWindow
  dsimp only
  split
  · exact h.trans (acts_goOn hw _)
  · exact h.trans (acts_enterIdle hw _)
  · exact h
  · exact h

theorem acts_startAt (i : Nat) (s : State) : Acts al s (startAt i s) := acts_withSeq s hw _

end Walk

/-! ## One exchange -/

section Exchange
variable {al : Allow}

theorem acts_handOn (q : ExchangeRequest) (r : ExchangeResult) (s : State) : Acts al s (handOn q r s) := by
  unfold handOn
  split
  · exact acts_flushStartResult ..
  · exact acts_queueReport _ s
  all_goals exact .refl s

theorem acts_nodeStage (r : ExchangeResult) (p : Option Reply) (s : State) : Acts al s (nodeStage r p s) := by
  unfold nodeStage
  split
  · split
    · exact acts_takeReply ..
    · exact .refl s
  · exact .refl s

theorem acts_beginAttempt (f : Flight) (n : Nat) (l : Lane) (s : State) : Acts al s (beginAttempt f n l s) :=
  acts_withXe s _

theorem acts_startIdleTime (s : State) : Acts al s (startIdleTime s) := acts_withXe s _

theorem acts_abandonExchange (s : State) : Acts al s (abandonExchange s) := by
  unfold abandonExchange
  split
  · exact .refl s
  · exact acts_withXe s _

variable (hw : al.walk)
include hw

theorem acts_slotTakesResult (r : ExchangeResult) (s : State) : Acts al s (slotTakesResult r s) := by
  unfold slotTakesResult
  split
  · dsimp only
    split
    · exact acts_goTo hw _ s
    · exact acts_goOn hw s
  · exact acts_enterIdle hw s
  · exact .refl s
  · exact .refl s

theorem acts_requestDone (s : State) : Acts al s (requestDone s) := by
  unfold requestDone
  dsimp only
  split
  · exact (acts_window s (.inl hw) _ s.arb.due).trans (acts_closeWindow hw _)
  · exact acts_window s (.inl hw) _ _

theorem acts_handResult (q : ExchangeRequest) (r : ExchangeResult) (s : State) : Acts al s (handResult q r s) := by
  unfold handResult
  split
  · exact acts_slotTakesResult hw r s
  · exact (acts_handOn q r s).trans (acts_requestDone hw _)

theorem acts_endExchange (q : ExchangeRequest) (v : Option Nat) (c : Bool) (e : Ending) (s : State) :
    Acts al s (endExchange q v c e s) := by
  unfold endExchange
  dsimp only
  refine Acts.trans (Acts.trans ?_ (acts_withXe _ _)) (acts_handResult hw q _ _)
  exact ((acts_withXe s _).trans (acts_healthStage _ _)).trans (acts_nodeStage _ _ _)

theorem acts_makeAttempt (f : Flight) (n : Nat) (s : State) : Acts al s (makeAttempt f n s) := by
  unfold makeAttempt
  split
  · exact acts_beginAttempt ..
  · exact acts_endExchange hw ..

theorem acts_beginExchange (q : ExchangeRequest) (s : State) : Acts al s (beginExchange q s) := by
  unfold beginExchange
  split
  · exact acts_endExchange hw ..
  · dsimp only
    refine Acts.trans ?_ (acts_makeAttempt hw _ _ _)
    split
    · exact acts_countClamp _ s
    · exact .refl s

theorem acts_retryOrEnd (f : Flight) (o : Outcome) (p : Option Reply) (s : State) :
    Acts al s (retryOrEnd f o p s) := by
  unfold retryOrEnd
  split
  · exact acts_makeAttempt hw ..
  · exact acts_endExchange hw ..

theorem acts_failAttempt (f : Flight) (e : TransferError) (s : State) : Acts al s (failAttempt f e s) :=
  ((acts_startIdleTime s).trans (acts_attemptFailed ..)).trans (acts_retryOrEnd hw ..)

theorem acts_succeedAttempt (f : Flight) (p : Reply) (s : State) : Acts al s (succeedAttempt f p s) := by
  have h : Acts al s (attemptSucceeded f.lane f.request.node (startIdleTime s)) :=
    (acts_startIdleTime s).trans (acts_attemptSucceeded ..)
  unfold succeedAttempt
  dsimp only
  split
  · exact h.trans (acts_retryOrEnd hw ..)
  · exact h.trans (acts_endExchange hw ..)

theorem acts_judgeAttempt (f : Flight) (octets : List Byte) (s : State) : Acts al s (judgeAttempt f octets s) := by
  unfold judgeAttempt
  split
  · exact acts_failAttempt hw ..
  · exact acts_succeedAttempt hw ..

theorem acts_takeReplyOctet (f : Flight) (b : Byte) (s : State) : Acts al s (takeReplyOctet f b s) := by
  unfold takeReplyOctet
  dsimp only
  split
  · exact acts_judgeAttempt hw ..
  · exact acts_withXe s _

/-! ## The arbiter's decisions -/

theorem acts_requestExchange (q : ExchangeRequest) (s : State) : Acts al s (requestExchange q s) :=
  (acts_window s (.inl hw) _ s.arb.due).trans (acts_beginExchange hw q _)

theorem acts_grantFlush (r : FlushRequest) (s : State) : Acts al s (grantFlush r s) := by
  unfold grantFlush
  split
  · exact acts_requestExchange hw _ s
  · exact (acts_flushGrantSkipped r s).trans (acts_window _ (.inl hw) _ true)

omit hw in
/-- R129: the pointers alone move. -/
theorem movePointers_kept (c : Candidate) (a : Arbiter) : QueuesKept al a (movePointers c a) := by
  unfold movePointers
  split <;> exact ⟨.refl _, .refl _, le_rfl, .refl _, .inr ⟨rfl, rfl⟩⟩

theorem acts_grant (c : Candidate) (s : State) : Acts al s (grant c s) := by
  have h : Acts al s (s.withArb (movePointers c s.arb)) := acts_withArb (movePointers_kept c s.arb)
  unfold grant
  extract_lets t
  split
  · split
    · next a rest hq =>
      have tail : QueuesKept al t.arb { t.arb with frost := rest } :=
        ⟨by simp [hq], .refl _, le_rfl, .refl _, .inr ⟨rfl, rfl⟩⟩
      exact (h.trans (acts_withArb tail)).trans (acts_requestExchange hw _ _)
    · exact h
  · split
    · next r rest hq =>
      have tail : QueuesKept al t.arb { t.arb with flush := rest } :=
        ⟨.refl _, by simp [hq], le_rfl, .refl _, .inr ⟨rfl, rfl⟩⟩
      exact (h.trans (acts_withArb tail)).trans (acts_grantFlush hw _ _)
    · exact h
  · split
    · next r rest hq =>
      have tail : QueuesKept al t.arb { t.arb with pass := rest } :=
        ⟨.refl _, .refl _, by simp [hq], .refl _, .inr ⟨rfl, rfl⟩⟩
      exact (h.trans (acts_withArb tail)).trans (acts_requestExchange hw _ _)
    · exact h
  · split
    · next p rest hq =>
      have tail : QueuesKept al t.arb { t.arb with probe := rest } :=
        ⟨.refl _, .refl _, le_rfl, by simp [hq], .inr ⟨rfl, rfl⟩⟩
      exact (h.trans (acts_withArb tail)).trans (acts_requestExchange hw _ _)
    · exact h
  · exact h

theorem acts_decision (s : State) : Acts al s (decision s) := by
  unfold decision
  split
  · split
    · exact acts_grant hw _ s
    · exact acts_closeWindow hw s
  · split
    · exact acts_closeWindow hw s
    · split
      · exact acts_closeWindow hw s
      · exact .refl s

theorem acts_makeDecision (s : State) : Acts al s (makeDecision s) := by
  have h : Acts al s (s.withArb { s.arb with due := false }) := acts_window s (.inl hw) s.arb.window false
  unfold makeDecision
  dsimp only
  split
  · exact h.trans (acts_decision hw _)
  · exact h

/-! ## Slots, and what follows a command within it -/

theorem acts_countOverrun (s : State) : Acts al s (countOverrun s) := (acts_withSeq s hw _).trans (acts_raise ..)

theorem acts_passMark (late : Bool) (s : State) : Acts al s (passMark late s) := by
  unfold passMark
  dsimp only
  refine Acts.trans (Acts.trans ?_ (acts_announceMark _)) (acts_goOn hw _)
  split
  · exact (acts_withSeq s hw _).trans (acts_countOverrun hw _)
  · exact acts_withSeq s hw _

theorem acts_reachMark (s : State) : Acts al s (reachMark s) := by
  unfold reachMark
  split
  · exact acts_passMark hw _ s
  · exact acts_withSeq s hw _
  · exact acts_passMark hw _ s
  · exact acts_passMark hw _ s

theorem acts_reachExchange (x : Slot) (s : State) : Acts al s (reachExchange x s) :=
  (acts_withSeq s hw _).trans (acts_beginExchange hw _ _)

theorem acts_reachWindow (x : Slot) (s : State) : Acts al s (reachWindow x s) :=
  (acts_withSeq s hw _).trans (acts_window _ (.inl hw) _ true)

theorem acts_reachReturn (s : State) : Acts al s (reachReturn s) := by
  unfold reachReturn
  split
  · exact (acts_withSeq s hw _).trans (acts_goTo hw _ _)
  · exact .refl s

theorem acts_actSlot (x : Slot) (s : State) : Acts al s (actSlot x s) := by
  unfold actSlot
  split
  · exact acts_reachMark hw s
  · exact acts_reachExchange hw x s
  · exact acts_reachExchange hw x s
  · exact acts_reachExchange hw x s
  · exact acts_withSeq s hw _
  · exact acts_reachWindow hw x s
  · exact acts_goTo hw _ s
  · exact (acts_withSeq s hw _).trans (acts_goTo hw _ _)
  · exact acts_reachReturn hw s
  · exact (acts_raise ..).trans (acts_goOn hw _)
  · exact acts_enterIdle hw s

theorem acts_reachSlot (i : Nat) (s : State) : Acts al s (reachSlot i s) := by
  unfold reachSlot
  dsimp only
  split
  · exact (acts_withSeq s hw _).trans (acts_halt hw _ _)
  · exact ((acts_withSeq s hw _).trans (acts_withSeq _ hw _)).trans (acts_actSlot hw _ _)

theorem acts_settleOnce {s t : State} (h : settleOnce s = some t) : Acts al s t := by
  unfold settleOnce at h
  split at h
  · cases h
    exact acts_makeDecision hw s
  · split at h
    · cases h
      exact acts_reachSlot hw _ s
    · cases h

theorem acts_settleFor (n : Nat) (s : State) : Acts al s (settleFor n s) := by
  induction n generalizing s with
  | zero => exact .refl s
  | succ n ih =>
    unfold settleFor
    split
    · next t ht => exact (acts_settleOnce hw ht).trans (ih t)
    · exact .refl s

theorem acts_settle (s : State) : Acts al s (settle s) := acts_settleFor hw _ s

end Exchange

/-! ## Link Unit and mode -/

section Link
variable {al : Allow}

theorem acts_changeMode (m : Mode) (c : ModeCause) (s : State) : Acts al s (changeMode m c s) :=
  (acts_withMode s m).trans (acts_inform ..)

theorem acts_takeLinkLoss (s : State) : Acts al s (takeLinkLoss s) := by
  unfold takeLinkLoss
  split
  · exact acts_changeMode ..
  · exact .refl s

/-- A Link Unit with the same receiver, responses and reports. -/
theorem LinkKept.of_same {u u' : LinkUnit} (hr : u'.rx = u.rx) (hq : u'.responses = u.responses)
    (hs : u'.reports = u.reports) : LinkKept u u' :=
  ⟨by rw [hr]; exact .refl _, by rw [hq], .inl (by rw [hs])⟩

theorem acts_loseLink (s : State) : Acts al s (loseLink s) := by
  unfold loseLink
  exact ((acts_withLu (by exact .of_same rfl rfl rfl)).trans (acts_raise ..)).trans (acts_takeLinkLoss _)

/-- R165: the transmitter takes its frame from the head of a queue. -/
theorem chooseFrame_kept (u : LinkUnit) : LinkKept u (chooseFrame u) := by
  unfold chooseFrame sendFrame
  split
  · next h => exact ⟨.refl _, by simp [h], .inl le_rfl⟩
  · next h => exact ⟨.refl _, le_rfl, .inl (by simp [h])⟩
  all_goals exact .refl u

theorem acts_txStart (s : State) : Acts al s (txStart s) := by
  unfold txStart
  split
  · exact acts_withLu (chooseFrame_kept s.lu)
  · exact .refl s

theorem acts_fillExpiry (s : State) : Acts al s (fillExpiry s) := by
  unfold fillExpiry
  split
  · exact acts_withLu (.of_same rfl rfl rfl)
  · exact .refl s

theorem acts_finish (hw : al.walk) (s : State) : Acts al s (finish s) := (acts_settle hw s).trans (acts_txStart _)

theorem acts_setStream (x : Stream) (s : State) : Acts al s (setStream x s) := by
  refine acts_withLu ⟨.refl _, le_rfl, .inl ?_⟩
  dsimp only
  split
  · exact Nat.zero_le _
  · exact le_rfl

theorem acts_clearReports (s : State) : Acts al s (clearReports s) :=
  acts_withLu ⟨.refl _, le_rfl, .inl (Nat.zero_le _)⟩

theorem acts_linkReset (s : State) : Acts al s (linkReset s) :=
  acts_withLu ⟨.inr rfl, Nat.zero_le _, .inl (Nat.zero_le _)⟩

theorem acts_linkTaken (s : State) : Acts al s (linkTaken s) := by
  unfold linkTaken
  dsimp only
  split
  · exact (acts_withLu (by exact ⟨.inr rfl, le_rfl, .inl le_rfl⟩)).trans (acts_inform ..)
  · exact acts_withLu ⟨.inr rfl, le_rfl, .inl le_rfl⟩

theorem acts_discardRequest (s : State) : Acts al s (discardRequest s) := acts_withLu (.of_same rfl rfl rfl)

theorem acts_abandonFrame (e : RxError) (s : State) : Acts al s (abandonFrame e s) :=
  acts_withLu ⟨.inr rfl, le_rfl, .inl le_rfl⟩

theorem acts_powerOn (h : al.reset) (pin : Bool) (s : State) : Acts al s (powerOn pin s) := .of fun _ => .powerOn pin h

end Link

/-! ## Start-up and the store -/

section Store
variable {al : Allow}

theorem acts_store {s : State} {x : Store} (h : StoreKept al s x) : Acts al s (s.withStore x) := .of fun _ => .store x h

theorem acts_startEnabled (i : Nat) (s : State) : Acts al s (startEnabled i s) := by
  unfold startEnabled
  split
  · exact acts_startInterval i s
  · exact .refl s

theorem pumpCheck_eq (s : State) : ∃ x, pumpCheck s = s.withArb x := foldl_eq_withArb checkPump_eq _ s

/-- R156: the tables are loaded and every section is derived and checked. -/
theorem acts_loadTables {s : State} (t : ConfigTables) (hs : s.Starting) (ht : al.load t) :
    Acts al s (forSections deriveAndCheck ((s.withCfg t).withLoop (.powerOn t.loop.supply))) :=
  ⟨fun O => .trans (.single (.load t hs ht)) (reach_deriveAll O _)⟩

/-- The checks leave the store. -/
theorem loadTables_store (s : State) (t : ConfigTables) (l : LoopState) :
    (pumpCheck (forSections deriveAndCheck ((s.withCfg t).withLoop l))).store = s.store := by
  obtain ⟨x, hx⟩ := pumpCheck_eq (forSections deriveAndCheck ((s.withCfg t).withLoop l))
  rw [hx, withArb_store, (settling_forSections settling_deriveAndCheck _).store]
  rfl

/-- R156: the store of a part that leaves STARTING with a valid image. -/
theorem acts_storeValid {s : State} (hl : ∃ t, al.load t) (hv : holdsValid s.store.stored = true) :
    Acts al s (s.withStore { s.store with state := .idle, image := .valid }) :=
  acts_store ⟨nofun, fun _ => by simp [hv], id, fun _ hi => .inl hi, fun _ hc => .inl hc, fun _ => .inr hl, nofun⟩

/-- R157: the store of a part that leaves STARTING with no valid image. -/
theorem acts_storeInvalid {s : State} (image : ImageState) (hl : ∃ t, al.load t) (hi : image ≠ .valid)
    (hv : holdsValid s.store.stored = false) : Acts al s (s.withStore { s.store with state := .idle, image := image }) :=
  acts_store ⟨nofun, fun _ => by simp [hi, hv], id, fun _ hi => .inl hi, fun _ hc => .inl hc, fun _ => .inr hl, nofun⟩

/-- The start of the stream at HOLD. -/
theorem acts_holdStream (s : State) : Acts al s (s.withLu { s.lu with stream := .hold }) :=
  acts_withLu (.of_same rfl rfl rfl)

/-- R156: the part leaves STARTING from tables that are derived and checked. -/
theorem acts_leaveStarting (hw : al.walk) (j : State) (hl : ∃ t, al.load t) (hv : holdsValid j.store.stored = true) :
    Acts al j (driveLines (startAt 0 (forSections startEnabled
      ((j.withStore { j.store with state := .idle, image := .valid }).withLu
        { (j.withStore { j.store with state := .idle, image := .valid }).lu with stream := .hold })))) :=
  ((((acts_storeValid hl hv).trans (acts_holdStream _)).trans (acts_forSections acts_startEnabled _)).trans
    (acts_startAt hw _ _)).trans (acts_driveLines _)

theorem acts_startFromImage (hw : al.walk) {s : State} (t : ConfigTables) (hs : s.Starting) (ht : al.load t)
    (hv : holdsValid s.store.stored = true) : Acts al s (startFromImage t s) := by
  have loaded := (acts_loadTables t hs ht).trans (acts_pumpCheck _)
  exact loaded.trans (acts_leaveStarting hw _ ⟨t, ht⟩ (by rw [loadTables_store]; exact hv))

/-- R157: the default tables are loaded; the sections, none of them enabled, are not derived. -/
theorem reach_startFromDefaults {s : State} (image : ImageState) (cause : StoreCause) (hs : s.Starting)
    (ht : al.load defaultTables) (hi : image ≠ .valid) (hv : holdsValid s.store.stored = false) (O : Set Nat) :
    Relation.ReflTransGen (Act al) (O, s) (Set.univ, startFromDefaults image cause s) := by
  have stored := acts_storeInvalid (al := al) (s := (s.withCfg defaultTables).withLoop (.powerOn 0)) image ⟨_, ht⟩ hi hv
  unfold startFromDefaults
  dsimp only
  refine .trans (.single (.load defaultTables hs ht)) (Acts.reach ?_ _)
  refine Acts.trans (stored.trans ?_) (acts_raise ..)
  exact acts_withLu (.of_same rfl rfl rfl)

/-- R156, R157: the end of the start-up read, which returns an image that is held or that may be loaded, and no valid one
where none is held. -/
theorem reach_endStarting (hw : al.walk) {image : Option StoredImage} {s : State} (hs : s.Starting)
    (hd : al.load defaultTables) (hl : ∀ i, image = some i → al.load i.tables)
    (hv : holdsValid image = true → holdsValid s.store.stored = true) (O : Set Nat) :
    Relation.ReflTransGen (Act al) (O, s) (Set.univ, endStarting image s) := by
  have found : Acts al s (s.withStore { s.store with stored := image }) :=
    acts_store (by exact ⟨fun h => (nomatch (show s.store.state = .writing from h).symm.trans hs),
      fun h => (nomatch (show s.store.state = .idle from h).symm.trans hs), hv, fun i hi => .inr (hl i hi),
      fun _ hc => .inl hc, fun _ => .inl hs, fun _ => hs⟩)
  refine .trans (found.reach O) ?_
  unfold endStarting
  dsimp only
  split
  · next i =>
    split
    · next hc => exact .tail ((acts_startFromImage (s := s.withStore { s.store with stored := some i }) hw i.tables hs (hl i rfl) hc).reach O) (.wait fun _ _ _ => trivial)
    · next hc => exact reach_startFromDefaults (s := s.withStore { s.store with stored := some i }) .invalid .check hs hd nofun (by simpa using hc) O
  · exact reach_startFromDefaults (s := s.withStore { s.store with stored := none }) .blank .blank hs hd nofun rfl O

theorem acts_beginSave {s : State} (hs : s.store.state = .idle) : Acts al s (beginSave s) :=
  acts_store ⟨fun _ => rfl, nofun, nofun, nofun, fun _ ht => .inr (Option.some.inj ht).symm,
    fun h => (nomatch hs.symm.trans h), nofun⟩

theorem acts_endWriting {image : Option StoredImage} {s : State} (hs : s.store.state = .writing)
    (hi : al.written image) : Acts al s (endWriting image s) := by
  have store (x : Store) (h : StoreWritten al x) : Acts al s (s.withStore x) := .of fun _ => .written x hs h
  have judged : writeMatches image = holdsValid image := by cases image <;> rfl
  unfold endWriting
  split
  · next h =>
    exact (store _ ⟨rfl, by simpa [← judged] using h, hi, rfl⟩).trans (acts_inform ..)
  · next h =>
    exact ((store _ ⟨rfl, by simpa [← judged] using h, hi, rfl⟩).trans (acts_raise ..)).trans (acts_inform ..)

theorem acts_storeWritten {s : State} (read : ReadBack)
    (hi : s.store.state = .writing → al.written (readBack (s.store.copy.map imageOf) read)) :
    Acts al s (storeWritten read s) := by
  unfold storeWritten
  split
  · next hs => exact acts_endWriting hs (hi hs)
  · exact .refl s

end Store

/-! ## The entries of a TABLE_WRITE -/

section Writes
variable {al : Allow}

theorem acts_writeSlot (i : Nat) (x : Slot) (s : State) : Acts al s (writeSlot i x s) := acts_withCfg rfl rfl

theorem acts_resetNode (a : Nat) (k : NodeKind) (s : State) : Acts al s (resetNode a k s) :=
  ((acts_setNode s a _).trans (acts_setDemand _ a _)).trans (acts_setHold _ a _)

theorem acts_kindChange (a : Nat) (k : NodeKind) (s : State) : Acts al s (kindChange a k s) := by
  unfold kindChange
  dsimp only
  split
  · exact (acts_resetNode a k s).trans (acts_nodeActive ..)
  · exact acts_resetNode a k s

theorem acts_silenceLowered (a before after : Nat) (s : State) : Acts al s (silenceLowered a before after s) := by
  unfold silenceLowered
  dsimp only
  split
  · exact acts_setNode s a _
  · exact .refl s

theorem acts_writeNode (a : Nat) (c : NodeCfg) (s : State) : Acts al s (writeNode a c s) := by
  have h : Acts al s (writeNodeCfg a c s) := acts_withCfg rfl rfl
  unfold writeNode
  dsimp only
  split
  · exact h.trans (acts_silenceLowered ..)
  · exact h.trans (acts_kindChange ..)

theorem works_sectionFrost (i : Nat) (before c : SectionCfg) (s : State) : Works al i s (sectionFrost i before c s) := by
  unfold sectionFrost
  split
  · exact works_setSec i (.inl (Nat.zero_le _)) (.refl _)
  split
  · exact (acts_enterBlind i s).works i
  · unfold blindCeilingWritten
    dsimp only
    split
    · exact works_setSec i (.inr (Nat.min_le_left _ _)) (.refl _)
    · exact .refl i s

theorem acts_sectionTimer (i : Nat) (before c : SectionCfg) (s : State) : Acts al s (sectionTimer i before c s) := by
  unfold sectionTimer
  split
  · exact acts_startInterval i s
  split
  · exact acts_setSec ⟨rfl, rfl, rfl, rfl, rfl, .refl _⟩
  · exact .refl s

theorem acts_sectionFlow (i : Nat) (before c : SectionCfg) (s : State) : Acts al s (sectionFlow i before c s) := by
  unfold sectionFlow
  split
  · split
    · exact acts_endPulse i s
    · exact .refl s
  split
  · exact acts_judgeFlow i s
  · exact .refl s

/-- The record makes the section wait; the work on it and the closing derivation follow. -/
theorem acts_writeSection (i : Nat) {c : SectionCfg} (s : State) (hv : c.valve ≤ 48) (hf : ∀ a ∈ c.fans, InPart a) :
    Acts al s (writeSection i c s) := by
  have work : Works al i (writeSectionCfg i c s)
      (sectionFlow i (s.secCfg i) c (sectionTimer i (s.secCfg i) c
        (sectionFrost i (s.secCfg i) c (writeSectionCfg i c s)))) :=
    ((works_sectionFrost i _ c _).trans ((acts_sectionTimer i _ c _).works i)).trans ((acts_sectionFlow i _ c _).works i)
  exact ⟨fun O => (Relation.ReflTransGen.single (Act.sectionTable i c hv hf)).trans
    (((work.reach O).tail (Act.derive i)).trans ((acts_overrideCheck i _).reach O))⟩

/-- R28: the supply's part of an entry leaves L, or makes every section wait. -/
theorem reach_loopSupplyWritten (before c : LoopCfg) (s : State) (O : Set Nat) :
    Relation.ReflTransGen (Act al) (O, s)
      (if (loopSupplyWritten before c s).loop.ceiling = s.loop.ceiling then O else Set.univ,
        loopSupplyWritten before c s) := by
  have written (l : LoopState) (h : l.ceiling ≤ 1000 ∨ l.ceiling ≤ s.loop.ceiling) :
      Relation.ReflTransGen (Act al) (O, s) (if l.ceiling = s.loop.ceiling then O else Set.univ, s.withLoop l) := by
    split
    · next he => exact .single (.loop l he)
    · exact .single (.loopCeiling l h)
  unfold loopSupplyWritten
  split
  · exact written _ (.inl le_rfl)
  split
  · refine .tail ((acts_supplyBlind s).reach O) (.wait fun _ _ h => ?_)
    split
    · exact h
    · trivial
  split
  · exact written _ (.inr (Nat.min_le_left _ _))
  · simpa using Relation.ReflTransGen.refl

theorem loopReturnWritten_ceiling (before c : LoopCfg) (s : State) :
    (loopReturnWritten before c s).loop.ceiling = s.loop.ceiling := by
  unfold loopReturnWritten
  split <;> rfl

theorem loopAmbientWritten_ceiling (before c : LoopCfg) (s : State) :
    (loopAmbientWritten before c s).loop.ceiling = s.loop.ceiling := by
  unfold loopAmbientWritten
  split <;> rfl

theorem acts_loopReturnWritten (before c : LoopCfg) (s : State) : Acts al s (loopReturnWritten before c s) := by
  unfold loopReturnWritten
  split
  · exact acts_withLoop rfl
  · exact .refl s

theorem acts_loopAmbientWritten (before c : LoopCfg) (s : State) : Acts al s (loopAmbientWritten before c s) := by
  unfold loopAmbientWritten
  split
  · exact acts_withLoop rfl
  · exact .refl s

/-- R28: an entry's work on the loop, and the derivations where L has changed. -/
theorem reach_loopWritten (before c : LoopCfg) (s : State) (O : Set Nat) :
    Relation.ReflTransGen (Act al) (O, s) (O, afterLoopCeiling s.loop.ceiling
      (loopAmbientWritten before c (loopReturnWritten before c (loopSupplyWritten before c s)))) := by
  have supply := reach_loopSupplyWritten (al := al) before c s O
  have rest := (acts_loopReturnWritten (al := al) before c (loopSupplyWritten before c s)).trans
    (acts_loopAmbientWritten before c _)
  unfold afterLoopCeiling
  rw [loopAmbientWritten_ceiling, loopReturnWritten_ceiling]
  split
  · next h =>
    rw [if_neg h] at supply
    exact (supply.trans (rest.reach _)).trans (reach_deriveAll O _)
  · next h =>
    rw [if_pos (not_not.mp h)] at supply
    exact supply.trans (rest.reach O)

theorem acts_writeLoop {c : LoopCfg} (s : State) (hp : ∀ a ∈ c.pumps, InPart a) : Acts al s (writeLoop c s) := by
  have record : Acts al s (s.withCfg { s.cfg with loop := c }) := .of fun _ => .tables _ rfl (.inr hp)
  unfold writeLoop
  dsimp only
  refine Acts.trans (record.trans ⟨fun O => ?_⟩) (acts_pumpCheck _)
  exact reach_loopWritten s.cfg.loop c (s.withCfg { s.cfg with loop := c }) O

theorem acts_writeAlarm (n : Nat) (l : AlarmLine) (s : State) : Acts al s (writeAlarm n l s) := by
  unfold writeAlarm
  exact (acts_withCfg (by rfl) (by rfl)).trans (acts_driveLines _)

/-- An accepted entry of a table is applied by elementary updates. -/
def WriteRules.Acting {ε : Type} (w : WriteRules ε) (al : Allow) : Prop :=
  ∀ (i : Nat) (e : ε) (s t : State), w.apply i e s = some t → Acts al s t

theorem cycleRules_acting : cycleRules.Acting al := by
  intro i e s t ht
  simp only [cycleRules, applySlot] at ht
  split at ht
  · cases ht
    exact acts_writeSlot ..
  · cases ht

theorem nodeRules_acting : nodeRules.Acting al := by
  intro i e s t ht
  simp only [nodeRules, applyNode] at ht
  split at ht
  · split at ht
    · cases ht
      exact acts_writeNode ..
    · cases ht
  · cases ht

/-- R22, R26: an accepted list names nodes of the part. -/
theorem readNodeList_inPart {n : Byte} {room : List Byte} {xs : List Nat} (h : readNodeList n room = some xs) :
    ∀ a ∈ xs, InPart a := by
  unfold readNodeList at h
  dsimp only at h
  split at h
  · next hc =>
    obtain ⟨-, hall, -⟩ := hc
    cases h
    intro a ha
    have := List.all_eq_true.mp hall a ha
    simpa [InPart] using this
  · cases h

/-- R22: an accepted SECTION entry names nodes of the part. -/
theorem sectionOfEntry_inPart {e : SectionEntry} {c : SectionCfg} (h : sectionOfEntry e = some c) :
    c.valve ≤ 48 ∧ ∀ a ∈ c.fans, InPart a := by
  unfold sectionOfEntry at h
  split at h
  · next fans hf =>
    split at h
    · next hc =>
      obtain ⟨hok, -⟩ := hc
      cases h
      simp only [sectionFieldsOk, octetIn, Bool.and_eq_true, decide_eq_true_eq] at hok
      refine ⟨?_, readNodeList_inPart hf⟩
      dsimp only
      omega
    · cases h
  · cases h

/-- R26: an accepted LOOP entry names pumps of the part. -/
theorem loopOfEntry_inPart {e : LoopEntry} {c : LoopCfg} (h : loopOfEntry e = some c) : ∀ a ∈ c.pumps, InPart a := by
  unfold loopOfEntry at h
  split at h
  · next hp =>
    split at h
    · cases h
      exact readNodeList_inPart hp
    · cases h
  · cases h

theorem sectionRules_acting : sectionRules.Acting al := by
  intro i e s t ht
  simp only [sectionRules, applySection] at ht
  split at ht
  · next hc =>
    obtain ⟨hv, hf⟩ := sectionOfEntry_inPart hc
    split at ht
    · cases ht
      exact acts_writeSection i s hv hf
    · cases ht
  · cases ht

theorem loopRules_acting : loopRules.Acting al := by
  intro i e s t ht
  simp only [loopRules, applyLoop] at ht
  split at ht
  · next hc =>
    split at ht
    · cases ht
      exact acts_writeLoop s (loopOfEntry_inPart hc)
    · cases ht
  · cases ht

theorem demandRules_acting : demandRules.Acting al := by
  intro i e s t ht
  simp only [demandRules, applyDemand] at ht
  split at ht
  · split at ht
    · cases ht
      exact acts_setDemand s i _
    split at ht
    · cases ht
      exact acts_setDemand s i _
    · cases ht
  split at ht
  · cases ht
    exact .refl s
  · cases ht

theorem holdRules_acting : holdRules.Acting al := by
  intro i e s t ht
  simp only [holdRules, applyHold] at ht
  split at ht
  · cases ht
  split at ht
  · cases ht
    exact acts_setHold s i _
  split at ht
  · cases ht
    exact .refl s
  · cases ht

theorem alarmRules_acting : alarmRules.Acting al := by
  intro i e s t ht
  simp only [alarmRules, applyAlarm] at ht
  split at ht
  · cases ht
    exact acts_writeAlarm ..
  · cases ht

theorem linkSetRules_acting : linkSetRules.Acting al := by
  intro i e s t ht
  simp only [linkSetRules, applyLinkSet] at ht
  split at ht
  · cases ht
    exact acts_withCfg rfl rfl
  · cases ht

end Writes

end Sys2Proof.Machine
end

section
/-! PROOFS. What each request, each timer's end and each octet does is made of the elementary updates, of responses placed
where there is room, and of the receiver's own steps: `Moves`. So every command is (`exec_moves`), but for the end of the start-up read,
which is made of elementary updates alone (`exec_startup`). -/

namespace Sys2Proof.Machine

/-! ## Requests -/

section Requests
variable {al : Allow}

/-- Serving a request is made of elementary updates. -/
def Serves (al : Allow) (body : State → Served) : Prop := ∀ s, Acts al s (body s).1

theorem serves_demand (pairs : List (Byte × Word)) : Serves al (serveDemand pairs) := by
  intro s
  unfold serveDemand
  split
  · exact .refl s
  · refine foldl_keeps (P := Acts al s) demandPair (fun p t h => h.trans ?_) pairs s (.refl s)
    unfold demandPair
    split
    · exact acts_setDemand t _ _
    · exact .refl t

theorem serves_pass (tag node operation parameter : Byte) (value : Word) :
    Serves al (servePass tag node operation parameter value) := by
  intro s
  unfold servePass
  split
  · exact .refl s
  split
  · exact .refl s
  split
  · exact .refl s
  split
  · exact .refl s
  split
  · exact .refl s
  · exact acts_postPass _

theorem serves_start (hw : al.walk) (slot : Byte) : Serves al (serveStart slot) := by
  intro s
  unfold serveStart
  split
  · exact acts_startAt hw _ s
  · exact acts_startAt hw _ s
  · exact .refl s
  · exact .refl s

theorem acts_enterStopping (hw : al.walk) (s : State) : Acts al s (enterStopping s) := acts_withSeq s hw _

theorem acts_stopRunning (hw : al.walk) (s : State) : Acts al s (stopRunning s) := by
  unfold stopRunning
  split
  · exact acts_enterStopping hw s
  · split
    · exact (acts_clearWindow (.inl hw) s).trans (acts_enterIdle hw _)
    · exact (acts_window s (.inl hw) _ s.arb.due).trans (acts_enterStopping hw _)
  · exact acts_enterIdle hw s
  · exact acts_enterIdle hw s
  · exact acts_enterIdle hw s

theorem serves_stop (hw : al.walk) : Serves al serveStop := by
  intro s
  show Acts al s (stopWalk s)
  unfold stopWalk
  split
  · exact acts_stopRunning hw s
  all_goals exact .refl s

theorem serves_reports (stream : Byte) : Serves al (serveReports stream) := by
  intro s
  unfold serveReports
  split
  · exact acts_setStream _ s
  · exact .refl s

theorem serves_resume : Serves al serveResume := by
  intro s
  show Acts al s (if s.mode = .autonomous then changeMode .supervised .resume s else s)
  split
  · exact acts_changeMode ..
  · exact .refl s

theorem serves_hold : Serves al serveHold := by
  intro s
  show Acts al s (if s.mode = .supervised then changeMode .autonomous .hold s else s)
  split
  · exact acts_changeMode ..
  · exact .refl s

theorem serves_reviveNode (node : Byte) : Serves al (serveReviveNode node) := by
  intro s
  unfold serveReviveNode
  split
  · exact .refl s
  split
  · exact .refl s
  · exact acts_nodeGood _ s

theorem serves_reviveLane (lane : Byte) : Serves al (serveReviveLane lane) := by
  intro s
  unfold serveReviveLane
  split
  · exact acts_laneGood _ s
  · exact .refl s

theorem serves_flush (sec : Byte) : Serves al (serveFlush sec) := by
  intro s
  unfold serveFlush
  split
  · exact .refl s
  split
  · exact .refl s
  · exact acts_postFlush (by dsimp only; omega)

theorem serves_ack (classes : Word) : Serves al (serveAck classes) := by
  intro s
  unfold serveAck
  split
  · exact .refl s
  · exact acts_clearFlags _ s

theorem acts_endRunningPulse (i : Nat) (s : State) : Acts al s (endRunningPulse i s) := by
  unfold endRunningPulse
  split
  · exact acts_endPulse i s
  · exact .refl s

theorem acts_resetWalk (hw : al.walk) (s : State) : Acts al s (resetWalk s) := by
  unfold resetWalk
  split
  · exact acts_withSeq s hw _
  · exact acts_enterIdle hw s
  · exact .refl s
  · exact .refl s

/-- R125: the arbiter's queues are emptied. -/
theorem acts_resetArbiter (h : al.walk ∨ al.window) (s : State) : Acts al s (s.withArb .powerOn) :=
  acts_withArb ⟨List.nil_sublist _, List.nil_sublist _, Nat.zero_le _, List.nil_sublist _, .inl h⟩

theorem acts_fieldReset (hw : al.walk) (s : State) : Acts al s (fieldReset s) := by
  unfold fieldReset
  refine Acts.trans ?_ (acts_resetWalk hw _)
  refine Acts.trans ?_ (acts_forSections acts_endRunningPulse _)
  exact (acts_abandonExchange s).trans (acts_resetArbiter (.inl hw) _)

theorem serves_resetField (hw : al.walk) : Serves al serveResetField := by
  intro s
  have h := acts_fieldReset hw s
  unfold serveResetField accept
  generalize fieldReset s = t at h ⊢
  exact h

theorem serves_resetLink (hr : al.reset) : Serves al serveResetLink := by
  intro s
  unfold serveResetLink
  split
  · exact acts_powerOn hr _ s
  · exact acts_linkReset s

theorem serves_resetFull : Serves al serveResetFull := fun s => .refl s

theorem serves_save : Serves al serveSave := by
  intro s
  unfold serveSave
  split
  · next h => exact acts_beginSave h
  · exact .refl s
  · exact .refl s

theorem serves_clear : Serves al serveClear := fun s => acts_clearReports s

/-! ### TABLE_WRITE -/

theorem acts_writeEntries {ε : Type} {w : WriteRules ε} (h : w.Acting al) (es : List ε) (i n : Nat) (s : State) :
    Acts al s (writeEntries w es i n s).state := by
  induction es generalizing i n s with
  | nil => exact .refl s
  | cons e es ih =>
    unfold writeEntries judgeEntry
    split
    · exact .refl s
    · next t hj =>
      refine Acts.trans ?_ (ih _ _ t)
      split at hj
      · cases hj
      split at hj
      · cases hj
      split at hj
      · cases hj
      split at hj
      · next u hu =>
        cases hj
        exact h i e s t hu
      · cases hj

theorem serves_write {ε : Type} {w : WriteRules ε} (h : w.Acting al) (first count : Byte) (es : List ε) :
    Serves al (serveWrite w first count es) := by
  intro s
  unfold serveWrite
  split
  · exact .refl s
  · exact acts_writeEntries h es _ 0 s

/-! ### TABLE_READ -/

/-- R177: a TABLE_READ changes nothing. -/
theorem serveRead_state (table first count : Byte) (s : State) : (serveRead table first count s).1 = s := by
  unfold serveRead
  split
  · rfl
  split
  · rfl
  · rfl

theorem serves_read (table first count : Byte) : Serves al (serveRead table first count) := by
  intro s
  rw [serveRead_state]
  exact .refl s

/-! ### From a payload -/

theorem serves_demandFrame (payload : List Byte) : Serves al (serveDemandFrame payload) := by
  intro s
  unfold serveDemandFrame
  split
  · exact serves_demand _ s
  · exact .refl s

theorem serves_entries {ε : Type} {w : WriteRules ε} (h : w.Acting al) (len : Nat) (read : List Byte → Option ε)
    (first count : Byte) (octets : List Byte) : Serves al (serveEntries w len read first count octets) := by
  intro s
  unfold serveEntries
  split
  · exact serves_write h _ _ _ s
  · exact .refl s

theorem serves_writeFrame (payload : List Byte) : Serves al (serveWriteFrame payload) := by
  intro s
  unfold serveWriteFrame
  split
  · split
    · exact serves_entries cycleRules_acting _ _ _ _ _ s
    · exact serves_entries nodeRules_acting _ _ _ _ _ s
    · exact serves_entries sectionRules_acting _ _ _ _ _ s
    · exact serves_entries loopRules_acting _ _ _ _ _ s
    · exact serves_entries demandRules_acting _ _ _ _ _ s
    · exact serves_entries holdRules_acting _ _ _ _ _ s
    · exact serves_entries alarmRules_acting _ _ _ _ _ s
    · exact serves_entries linkSetRules_acting _ _ _ _ _ s
    · exact .refl s
  · exact .refl s

theorem serves_readFrame (payload : List Byte) : Serves al (serveReadFrame payload) := by
  intro s
  unfold serveReadFrame
  split
  · exact serves_read _ _ _ s
  · exact .refl s

theorem serves_bare {code : Byte} {body : State → Served} (h : Serves al body) (param : List Byte) :
    Serves al (bare code body param) := by
  cases param with
  | nil => exact h
  | cons _ _ => exact fun s => .refl s

theorem serves_oneOctet {code : Byte} {body : Byte → State → Served} (h : ∀ p, Serves al (body p))
    (param : List Byte) : Serves al (oneOctet code body param) := by
  intro s
  unfold oneOctet
  split
  · exact h _ s
  · exact .refl s

theorem serves_twoOctets {code : Byte} {body : Byte → Byte → State → Served} (h : ∀ p q, Serves al (body p q))
    (param : List Byte) : Serves al (twoOctets code body param) := by
  intro s
  unfold twoOctets
  split
  · exact h _ _ s
  · exact .refl s

theorem serves_revive (kind target : Byte) : Serves al (serveRevive kind target) := by
  intro s
  unfold serveRevive
  split
  · exact serves_reviveNode target s
  split
  · exact serves_reviveLane target s
  · exact .refl s

/-- Of the resets, that of the link alone may take a power-on. -/
theorem serves_reset (hw : al.walk) {scope : Byte} (hr : scope = 1 → al.reset) : Serves al (serveReset scope) := by
  intro s
  unfold serveReset
  split
  · exact serves_resetField hw s
  split
  · next h => exact serves_resetLink (hr h) s
  split
  · exact serves_resetFull s
  · exact .refl s

theorem serves_command (hw : al.walk) {code : Byte} {param : List Byte} (hr : code :: param = [9, 1] → al.reset) :
    Serves al (serveCommand code param) := by
  intro s
  unfold serveCommand
  split
  · exact serves_oneOctet (serves_start hw) param s
  · exact serves_bare (serves_stop hw) param s
  · exact serves_oneOctet serves_reports param s
  · exact serves_bare serves_resume param s
  · exact serves_bare serves_hold param s
  · exact serves_twoOctets serves_revive param s
  · exact serves_oneOctet serves_flush param s
  · exact serves_twoOctets (fun _ _ => serves_ack _) param s
  · next h =>
    have hc : code = 9 := BitVec.eq_of_toNat_eq h
    unfold oneOctet
    split
    · exact serves_reset hw (fun hp => hr (by rw [hc, hp])) s
    · exact .refl s
  · exact serves_bare serves_save param s
  · exact serves_bare serves_clear param s
  · exact .refl s

theorem serves_commandFrame (hw : al.walk) {payload : List Byte} (hr : payload = [9, 1] → al.reset) :
    Serves al (serveCommandFrame payload) := by
  cases payload with
  | nil => exact fun s => .refl s
  | cons code param => exact serves_command hw hr

theorem serves_passFrame (tag : Byte) (payload : List Byte) : Serves al (servePassFrame tag payload) := by
  intro s
  unfold servePassFrame
  split
  · exact serves_pass _ _ _ _ _ s
  · exact .refl s

theorem serves_while {idle : List Byte} {body : State → Served} (h : Serves al body) :
    Serves al (whileServed idle body) := by
  intro s
  unfold whileServed
  split
  · exact .refl s
  · exact h s

/-- Of the frames, that of a RESET LINK alone may take a power-on. -/
theorem serves_frame (hw : al.walk) {kind : Byte} (tag : Byte) {payload : List Byte}
    (hr : kind = kindCommand → payload = [9, 1] → al.reset) : Serves al (serveFrame kind tag payload) := by
  intro s
  unfold serveFrame
  split
  · exact serves_while (serves_demandFrame payload) s
  split
  · exact serves_while (serves_writeFrame payload) s
  split
  · exact serves_while (serves_readFrame payload) s
  split
  · next h => exact serves_while (serves_commandFrame hw (hr h)) s
  split
  · exact serves_while (serves_passFrame tag payload) s
  · exact .refl s

end Requests

/-! ## Timers -/

section Timing
variable {al : Allow}

theorem acts_waitOver (hw : al.walk) (s : State) : Acts al s (waitOver s) := by
  unfold waitOver
  split
  · exact (acts_withSeq s hw _).trans (acts_goOn hw _)
  · exact .refl s

theorem acts_cycleTimerZero (hw : al.walk) (s : State) : Acts al s (cycleTimerZero s) := by
  unfold cycleTimerZero
  split
  · split
    · exact acts_passMark hw _ s
    split
    · exact (acts_withSeq s hw _).trans (acts_closeWindow hw _)
    · exact acts_withSeq s hw _
  · exact .refl s

theorem acts_intervalOver (i : Nat) (s : State) : Acts al s (intervalOver i s) := by
  unfold intervalOver
  split
  · exact acts_intervalExpiry i s
  · exact .refl s

/-- A section whose flush timer runs is one of the part. -/
theorem sec_inPart {s : State} {i : Nat} (h : (s.sec i).flushTimer ≠ none) : i < 8 := by
  by_contra hi
  rw [sec_outside s (by omega)] at h
  exact h rfl

theorem acts_flushOver (i : Nat) (s : State) : Acts al s (flushOver i s) := by
  unfold flushOver
  split
  · next h => exact acts_pulseCompletes i s (sec_inPart h)
  · exact .refl s

theorem acts_linkOver (s : State) : Acts al s (linkOver s) := by
  unfold linkOver
  split
  · exact acts_loseLink s
  · exact .refl s

theorem acts_frameEnd (hr : al.reset) (s : State) : Acts al s (frameEnd s) := by
  unfold frameEnd
  split
  · split
    · exact acts_powerOn hr _ s
    · exact acts_withLu (.of_same rfl rfl rfl)
  · exact .refl s

theorem acts_laneCountdownOver (l : Lane) (s : State) : Acts al s (laneCountdownOver l s) := by
  unfold laneCountdownOver
  split
  · exact acts_laneProbeDue l s
  · exact .refl s

/-- A node that is SILENT is one of the part. -/
theorem node_inPart {s : State} {a : Nat} (h : (s.node a).health = .silent) : InPart a := by
  unfold State.node at h
  split at h
  · cases h
  · by_contra hi
    unfold InPart at hi
    rw [Vector.getElem?_eq_none (by omega)] at h
    cases h

theorem acts_nodeCountdownOver (a : Nat) (s : State) : Acts al s (nodeCountdownOver a s) := by
  unfold nodeCountdownOver
  split
  · next h => exact acts_nodeProbeDue a s (node_inPart h)
  · exact .refl s

theorem acts_failIn (hw : al.walk) (p : Phase) (e : TransferError) (s : State) : Acts al s (failIn p e s) := by
  unfold failIn
  split
  · split
    · exact acts_failAttempt hw _ e s
    · exact .refl s
  · exact .refl s

theorem acts_hearOctet (hw : al.walk) (l : Lane) (b : Byte) (bad : Bool) (s : State) :
    Acts al s (hearOctet l b bad s) := by
  unfold hearOctet
  split
  · split
    · split
      · exact acts_failAttempt hw _ _ s
      · exact acts_takeReplyOctet hw _ b s
    · exact .refl s
  · exact .refl s

end Timing

/-! ## Responses and the receiver -/

/-- The receiver takes an octet and goes on, or its gap timer counts. -/
def RxGoes (r r' : Receiver) : Prop := (∃ b, takeOctet r b = .goOn r') ∨ ∃ n, r' = { r with gap := n }

/-- A move of the part: elementary updates, a response placed with room for it, or the receiver that goes on. -/
inductive Move (al : Allow) : State → State → Prop
  | acts {s t} : Acts al s t → Move al s t
  | answer {s} (r : Response) : s.lu.responses.length < 4 →
      Move al s (s.withLu { s.lu with responses := s.lu.responses ++ [r] })
  | receiver {s : State} (rx) : RxGoes s.lu.rx rx → Move al s (setRx rx s)

/-- `t` is reached from `s` by moves of the part. -/
abbrev Moves (al : Allow) : State → State → Prop := Relation.ReflTransGen (Move al)

section Moves
variable {al : Allow} {s t u : State}

theorem Acts.moves (h : Acts al s t) : Moves al s t := .single (.acts h)

/-- What every elementary update keeps, beside the sections that wait. -/
theorem Acts.keeps {P : Set Nat × State → Prop} (h : Acts al s t) (hP : ∀ p q, Act al p q → P p → P q) {O : Set Nat}
    (hs : P (O, s)) : P (O, t) := by
  have all : ∀ q, Relation.ReflTransGen (Act al) (O, s) q → P q := by
    intro q hq
    induction hq with
    | refl => exact hs
    | tail _ hpq ih => exact hP _ _ hpq ih
  exact all _ (h.reach O)

/-- A post touches the arbiter alone. -/
theorem postFlush_eq (r : FlushRequest) (s : State) : ∃ x, postFlush r s = s.withArb x := by
  unfold postFlush
  split
  · split
    · exact ⟨_, rfl⟩
    · exact ⟨s.arb, rfl⟩
  · exact ⟨_, rfl⟩

theorem postPass_eq (r : PassRequest) (s : State) : ∃ x, postPass r s = s.withArb x := by
  unfold postPass
  split
  · exact ⟨_, rfl⟩
  · exact ⟨s.arb, rfl⟩

theorem postProbe_eq (p : ProbeTarget) (s : State) : ∃ x, postProbe p s = s.withArb x := by
  unfold postProbe
  split
  · exact ⟨s.arb, rfl⟩
  · exact ⟨_, rfl⟩

/-- An elementary update places no response. -/
theorem Act.responses {p q : Set Nat × State} (h : Act al p q) :
    q.2.lu.responses.length ≤ p.2.lu.responses.length := by
  cases h with
  | @link _ _ u hu => exact hu.responses
  | @postFrost O s a _ => obtain ⟨x, hx⟩ := postFrost_eq a s; simp [hx]
  | @postFlush O s r _ => obtain ⟨x, hx⟩ := postFlush_eq r s; simp [hx]
  | @postPass O s r => obtain ⟨x, hx⟩ := postPass_eq r s; simp [hx]
  | @postProbe O s p _ => obtain ⟨x, hx⟩ := postProbe_eq p s; simp [hx]
  | powerOn _ _ => exact Nat.zero_le _
  | _ => exact le_rfl

theorem Acts.responses (h : Acts al s t) : t.lu.responses.length ≤ s.lu.responses.length :=
  h.keeps (P := fun p => p.2.lu.responses.length ≤ s.lu.responses.length) (O := ∅)
    (fun _ _ a k => a.responses.trans k) le_rfl

/-- One µs passes. -/
theorem moves_elapse (hw : al.walk) (s : State) : Moves al s (elapse s) := by
  have timers : Acts al s ((((s.withSeq s.seq.elapse).withArb { s.arb with window := s.arb.window.elapse }).withXe
      s.xe.elapse).withLu { s.lu.elapse with rx := s.lu.rx }) :=
    (((acts_withSeq s hw _).trans (acts_window _ (.inl hw) _ _)).trans (acts_withXe _ _)).trans (acts_withLu (.of_same rfl rfl rfl))
  exact timers.moves.tail (.receiver { s.lu.rx with gap := s.lu.rx.gap - 1 } (.inr ⟨_, rfl⟩))

/-- R162: a valid frame is taken. -/
theorem moves_takeValid {execute : State → Served} (h : Serves al execute) (kind tag : Byte) (s : State) :
    Moves al s (takeValid kind tag execute s) := by
  refine (acts_linkTaken s).moves.trans ?_
  unfold takeValid
  dsimp only
  split
  · exact (acts_discardRequest _).moves
  · next hroom =>
    have served := h (linkTaken s)
    split
    · next u a hx =>
      rw [hx] at served
      have room : u.lu.responses.length < 4 := by
        have hu : u.lu.responses.length ≤ (linkTaken s).lu.responses.length := served.responses
        unfold responseCapacity at hroom
        omega
      exact served.moves.tail (.answer _ room)
    · next u hx =>
      rw [hx] at served
      exact served.moves

theorem moves_request {body : State → Served} (hw : al.walk) (h : Serves al body) (kind tag : Byte) (idle : List Byte)
    (s : State) : Moves al s (request kind tag idle body s) :=
  (moves_takeValid (serves_while h) kind tag s).trans (acts_finish hw _).moves

theorem moves_takeFrame (hw : al.walk) (hr : al.reset) (kind tag : Byte) (payload : List Byte) (s : State) :
    Moves al s (takeFrame kind tag payload s) :=
  (moves_takeValid (serves_frame hw tag fun _ _ => hr) kind tag s).trans (acts_finish hw _).moves

/-- R160, R161: octets taken one after the other. -/
theorem moves_feed (hw : al.walk) (hr : al.reset) (closing : Bool) (fuel : Nat) (octets : List Byte) (s : State) :
    Moves al s (feed closing fuel octets s) := by
  induction fuel generalizing octets s with
  | zero => exact .refl
  | succ fuel ih =>
    cases octets with
    | nil =>
      unfold feed
      split
      · have dropped : Acts al s (setRx .hunting s) := acts_withLu ⟨.inr rfl, le_rfl, .inl le_rfl⟩
        exact dropped.moves.trans (ih _ _)
      · exact .refl
      · exact .refl
    | cons b rest =>
      unfold feed
      split
      · next rx h => exact (Relation.ReflTransGen.single (.receiver rx (.inl ⟨b, h⟩))).trans (ih _ _)
      · exact (acts_abandonFrame _ s).moves.trans (ih _ _)
      · exact (acts_abandonFrame _ s).moves.trans (ih _ _)
      · dsimp only
        split
        · exact moves_takeFrame hw hr _ _ _ s
        · exact (moves_takeFrame hw hr _ _ _ s).trans (ih _ _)

theorem moves_abandonAndRescan (hw : al.walk) (hr : al.reset) (e : RxError) (s : State) :
    Moves al s (abandonAndRescan e s) := (acts_abandonFrame e s).moves.trans (moves_feed hw hr _ _ _ _)

theorem moves_receiveBad (hw : al.walk) (hr : al.reset) (s : State) : Moves al s (receiveBad s) := by
  unfold receiveBad
  split
  · exact .refl
  · exact moves_abandonAndRescan hw hr _ s

theorem moves_gapExpiry (hw : al.walk) (hr : al.reset) (s : State) : Moves al s (gapExpiry s) := by
  unfold gapExpiry
  split
  · exact .refl
  · exact moves_abandonAndRescan hw hr _ s

end Moves

/-! ## Commands -/

section Commands
variable {al : Allow} {s t : State}

/-- The commands that may take a power-on: the reset itself, the end of a frame sent (R162), and what brings a RESET LINK
(R170). -/
def TakesPowerOn : Instr → Prop
  | .powerOnReset _ => True
  | .transmitFrameEnd => True
  | .resetLink _ => True
  | .receiverOctet _ _ => True
  | .gapTimerExpiry => True
  | _ => False

/-- Every command but the end of the start-up read is made of moves. -/
theorem exec_moves {c : Instr} (hw : al.walk) (hr : TakesPowerOn c → al.reset) (ht : c = .plantTimeTick → al.tick)
    (hs : ∀ read, c = .storeWriteEnd read → s.store.state = .writing →
      al.written (readBack (s.store.copy.map imageOf) read))
    (hc : ∀ read, c ≠ .startupReadEnd read) (h : exec c s = .next t) : Moves al s t := by
  have done {u : State} (hu : Acts al s u) : Moves al s (finish u) := (hu.trans (acts_finish hw u)).moves
  cases c <;> cases h
  case powerOnReset rateHigh => exact done (acts_powerOn (hr trivial) rateHigh s)
  case startupReadEnd read => exact absurd rfl (hc read)
  case plantTimeTick => exact done (.of fun _ => .tick (ht rfl))
  case receiverOctet octet charError =>
    cases charError
    · exact moves_feed hw (hr trivial) _ _ _ s
    · exact moves_receiveBad hw (hr trivial) s
  case gapTimerExpiry => exact moves_gapExpiry hw (hr trivial) s
  case demand => exact moves_request hw (serves_demand _) ..
  case tableWriteCycle => exact moves_request hw (serves_write cycleRules_acting _ _ _) ..
  case tableWriteNode => exact moves_request hw (serves_write nodeRules_acting _ _ _) ..
  case tableWriteSection => exact moves_request hw (serves_write sectionRules_acting _ _ _) ..
  case tableWriteLoop => exact moves_request hw (serves_write loopRules_acting _ _ _) ..
  case tableWriteDemand => exact moves_request hw (serves_write demandRules_acting _ _ _) ..
  case tableWriteHold => exact moves_request hw (serves_write holdRules_acting _ _ _) ..
  case tableWriteAlarmMap => exact moves_request hw (serves_write alarmRules_acting _ _ _) ..
  case tableWriteLinkSet => exact moves_request hw (serves_write linkSetRules_acting _ _ _) ..
  case tableRead => exact moves_request hw (serves_read _ _ _) ..
  case pass => exact moves_request hw (serves_pass _ _ _ _ _) ..
  case start => exact moves_request hw (serves_start hw _) ..
  case stop => exact moves_request hw (serves_stop hw) ..
  case reports => exact moves_request hw (serves_reports _) ..
  case resume => exact moves_request hw serves_resume ..
  case hold => exact moves_request hw serves_hold ..
  case reviveNode => exact moves_request hw (serves_reviveNode _) ..
  case reviveLane => exact moves_request hw (serves_reviveLane _) ..
  case flush => exact moves_request hw (serves_flush _) ..
  case ack => exact moves_request hw (serves_ack _) ..
  case resetField => exact moves_request hw (serves_resetField hw) ..
  case resetLink => exact moves_request hw (serves_resetLink (hr trivial)) ..
  case resetFull => exact moves_request hw serves_resetFull ..
  case save => exact moves_request hw serves_save ..
  case clear => exact moves_request hw serves_clear ..
  case idleTimeEnd => exact done (acts_withXe s _)
  case commandFrameSent => exact done (acts_withXe s _)
  case responseTimerExpiry => exact done (acts_failIn hw _ _ s)
  case replyOctet => exact done (acts_hearOctet hw _ _ _ s)
  case replyGapExpiry => exact done (acts_failIn hw _ _ s)
  case replyWindowExpiry => exact done (acts_failIn hw _ _ s)
  case waitTimerExpiry => exact done (acts_waitOver hw s)
  case laneProbeCountdownEnd => exact done (acts_laneCountdownOver _ s)
  case nodeProbeCountdownEnd => exact done (acts_nodeCountdownOver _ s)
  case minorCycleTimerZero => exact done (acts_cycleTimerZero hw s)
  case intervalTimerExpiry => exact done (acts_intervalOver _ s)
  case flushTimerExpiry => exact done (acts_flushOver _ s)
  case storeWriteEnd read => exact done (acts_storeWritten read (hs read rfl))
  case linkTimerExpiry => exact done (acts_linkOver s)
  case fillTimerExpiry => exact done (acts_fillExpiry s)
  case transmitFrameEnd => exact done (acts_frameEnd (hr trivial) s)

/-- A read finds a valid image only where one is held (log 26). -/
theorem holdsValid_of_readBack {held : Option StoredImage} {read : ReadBack}
    (h : holdsValid (readBack held read) = true) : holdsValid held = true := by
  by_contra hn
  rw [holdsValid_readBack read (by simpa using hn)] at h
  cases h

/-- The end of the start-up read. -/
theorem startupRead_reach (hw : al.walk) (hd : al.load defaultTables) (read : ReadBack)
    (hl : ∀ i, readBack s.store.stored read = some i → al.load i.tables) (O : Set Nat) :
    Relation.ReflTransGen (Act al) (O, s) (Set.univ, finish (startupRead read s)) := by
  refine .trans ?_ ((acts_finish hw _).reach _)
  unfold startupRead
  split
  · next hs => exact reach_endStarting hw hs hd hl holdsValid_of_readBack O
  · exact .single (.wait fun _ _ _ => trivial)

end Commands
end Sys2Proof.Machine
end

section
/-! PROOFS. What every step keeps, read off the elementary updates: the frost limits, the queues and their keys, the
balances, the store, the receiver and plant time. -/

namespace Sys2Proof.Machine

/-! ## From the updates to a step -/

section Steps

/-- What a command permits: the tables that a start-up read may load, the image that a write may leave, a tick, and a
power-on. -/
def permitted (c : Instr) (s : State) : Allow where
  walk := True
  window := True
  load t := ∃ read, c = .startupReadEnd read ∧
    (t = defaultTables ∨ ∃ i, readBack s.store.stored read = some i ∧ t = i.tables)
  written o := s.store.state = .writing ∧ ∃ read, c = .storeWriteEnd read ∧
    o = readBack (s.store.copy.map imageOf) read
  tick := c = .plantTimeTick
  reset := TakesPowerOn c

/-- What time permits while no command waits. -/
def timePermits : Allow where
  walk := True
  window := True
  load _ := False
  written _ := False
  tick := False
  reset := False

/-- A command is made of moves that it permits, or ends a start-up read and is made of updates that it permits. -/
theorem exec_permitted {c : Instr} {s t : State} (h : exec c s = .next t) :
    ((∀ read, c ≠ .startupReadEnd read) ∧ Moves (permitted c s) s t) ∨ (∃ read, c = .startupReadEnd read) ∧
      ∀ O, Relation.ReflTransGen (Act (permitted c s)) (O, s) (Set.univ, t) := by
  by_cases hc : ∃ read, c = .startupReadEnd read
  · obtain ⟨read, rfl⟩ := hc
    cases h
    exact .inr ⟨⟨read, rfl⟩, startupRead_reach (al := permitted _ s) trivial ⟨read, rfl, .inl rfl⟩ read
      fun i hi => ⟨read, rfl, .inr ⟨i, hi, rfl⟩⟩⟩
  · have other : ∀ read, c ≠ .startupReadEnd read := fun read hr => hc ⟨read, hr⟩
    exact .inl ⟨other, exec_moves trivial id id (fun read hr hw => ⟨hw, read, hr, rfl⟩) other h⟩

/-- A step with no command waiting is made of moves that time permits. -/
theorem step_time {s t : State} (hp : s.pending = []) (h : step s = .next t) : Moves timePermits s t := by
  rw [step, hp] at h
  cases h
  exact (moves_elapse trivial s).trans (acts_finish trivial _).moves

/-- A step with a command waiting is that command. -/
theorem step_command {c : Instr} {rest : List Instr} {s t : State} (hp : s.pending = c :: rest)
    (h : step s = .next t) : exec c (s.withPending rest) = .next t := by
  rw [step, hp] at h
  exact h

variable {al : Allow} {s t : State} {P : State → Prop}

/-- What every update keeps, updates in order keep. -/
theorem reach_keeps (act : ∀ {O O' s t}, Act al (O, s) (O', t) → P s → P t) {O O' : Set Nat}
    (h : Relation.ReflTransGen (Act al) (O, s) (O', t)) (hs : P s) : P t := by
  have all : ∀ q, Relation.ReflTransGen (Act al) (O, s) q → P q.2 := by
    intro q hq
    induction hq with
    | refl => exact hs
    | tail _ hpq ih => exact act hpq ih
  exact all _ h

/-- What every update, every response placed and every step of the receiver keeps, moves in order keep. -/
theorem Moves.keeps (h : Moves al s t) (act : ∀ {O O' s t}, Act al (O, s) (O', t) → P s → P t)
    (answer : ∀ {s : State} (r : Response), s.lu.responses.length < 4 → P s →
      P (s.withLu { s.lu with responses := s.lu.responses ++ [r] }))
    (receiver : ∀ {s : State} {rx}, RxGoes s.lu.rx rx → P s → P (setRx rx s)) (hs : P s) : P t := by
  induction h with
  | refl => exact hs
  | tail _ hm ih =>
    cases hm with
    | acts ha => exact reach_keeps act (ha.reach ∅) ih
    | answer r hr => exact answer r hr ih
    | receiver rx hb => exact receiver hb ih

/-- What every update, every response placed and every step of the receiver keeps, a command keeps. -/
theorem exec_keeps {c : Instr} (h : exec c s = .next t)
    (act : ∀ {O O' u v}, Act (permitted c s) (O, u) (O', v) → P u → P v)
    (answer : ∀ {s : State} (r : Response), s.lu.responses.length < 4 → P s →
      P (s.withLu { s.lu with responses := s.lu.responses ++ [r] }))
    (receiver : ∀ {s : State} {rx}, RxGoes s.lu.rx rx → P s → P (setRx rx s)) (hs : P s) : P t := by
  rcases exec_permitted h with ⟨-, hm⟩ | ⟨-, hr⟩
  · exact hm.keeps act answer receiver hs
  · exact reach_keeps act (hr ∅) hs

/-- What every update, every response placed and every step of the receiver keeps, a step keeps. -/
theorem step_keeps (h : step s = .next t) (pending : ∀ {s} (r : List Instr), P s → P (s.withPending r))
    (act : ∀ {al O O' u v}, Act al (O, u) (O', v) → P u → P v)
    (answer : ∀ {s : State} (r : Response), s.lu.responses.length < 4 → P s →
      P (s.withLu { s.lu with responses := s.lu.responses ++ [r] }))
    (receiver : ∀ {s : State} {rx}, RxGoes s.lu.rx rx → P s → P (setRx rx s)) (hs : P s) : P t := by
  cases hp : s.pending with
  | nil => exact (step_time hp h).keeps act answer receiver hs
  | cons c rest => exact exec_keeps (step_command hp h) act answer receiver (pending rest hs)

end Steps

/-! ## E and V, C and L (R29) -/

section Limits
variable {al : Allow}

/-- R29: E and V stand derived but for the sections that wait. -/
def DerivedBut (p : Set Nat × State) : Prop := ∀ i, i < 8 → i ∉ p.1 → SectionDerived p.2 i

/-- E and V of a section depend on its state, its V minimum and L alone. -/
theorem SectionDerived.congr {s t : State} {i : Nat} (h : SectionDerived s i) (hs : t.sec i = s.sec i)
    (hc : t.secCfg i = s.secCfg i) (hl : t.loop.ceiling = s.loop.ceiling) : SectionDerived t i := by
  unfold SectionDerived at *
  rw [hs, hc, hl]
  exact h

/-- E and V of every section stand derived where sections, their records and L stand. -/
theorem DerivedBut.congr {O O' : Set Nat} {s t : State} (h : DerivedBut (O, s)) (hO : ∀ i, i < 8 → i ∈ O → i ∈ O')
    (hs : t.sections = s.sections) (hc : t.cfg.sections = s.cfg.sections) (hl : t.loop.ceiling = s.loop.ceiling) :
    DerivedBut (O', t) := fun i hi hn =>
  (h i hi fun ho => hn (hO i hi ho)).congr (by simp only [State.sec, hs]) (by simp only [State.secCfg, hc]) hl

theorem sectionDerived_derive {s : State} {i : Nat} (hi : i < 8) : SectionDerived (derive i s) i := by
  simp [SectionDerived, derive, hi, State.secCfg]

theorem sec_derive_other {s : State} {i j : Nat} (h : i ≠ j) : (derive i s).sec j = s.sec j := by
  simp [derive, sec_setSec_other _ _ h]

theorem sec_powerOn (pin : Bool) (s : State) (i : Nat) : (powerOn pin s).sec i = .powerOn := by
  simp only [State.sec, powerOn, State.reset, Vector.getElem?_replicate]
  split <;> rfl

/-- R29 at the power-on values. -/
theorem sectionDerived_powerOn (pin : Bool) (s : State) (i : Nat) : SectionDerived (powerOn pin s) i := by
  unfold SectionDerived
  rw [sec_powerOn]
  exact ⟨rfl, rfl⟩

theorem sec_withSections_map (s : State) (i : Nat) :
    (s.withSections (s.sections.map SectionState.tick)).sec i = (s.sec i).tick := by
  simp only [State.sec, withSections_sections, Vector.getElem?_map]
  cases s.sections[i]? <;> rfl

/-- A section's own table entry alone is written. -/
theorem secCfg_writeSectionCfg_other {s : State} {i j : Nat} (c : SectionCfg) (h : i ≠ j) :
    (writeSectionCfg i c s).secCfg j = s.secCfg j := by
  simp [State.secCfg, writeSectionCfg, h]

/-- Every update keeps E and V derived. -/
theorem Act.derived {p q : Set Nat × State} (h : Act al p q) (hp : DerivedBut p) : DerivedBut q := by
  cases h with
  | nodes | demand | xe | mode | eu | seq | link | queues | store | written =>
    exact hp.congr (fun _ _ h => h) rfl rfl rfl
  | @postFrost O s a _ => obtain ⟨x, hx⟩ := postFrost_eq a s; exact hx ▸ hp.congr (fun _ _ h => h) rfl rfl rfl
  | @postFlush O s r _ => obtain ⟨x, hx⟩ := postFlush_eq r s; exact hx ▸ hp.congr (fun _ _ h => h) rfl rfl rfl
  | @postPass O s r => obtain ⟨x, hx⟩ := postPass_eq r s; exact hx ▸ hp.congr (fun _ _ h => h) rfl rfl rfl
  | @postProbe O s t _ => obtain ⟨x, hx⟩ := postProbe_eq t s; exact hx ▸ hp.congr (fun _ _ h => h) rfl rfl rfl
  | tables c hc _ => exact hp.congr (fun _ _ h => h) rfl hc rfl
  | loop l hl => exact hp.congr (fun _ _ h => h) rfl rfl hl
  | wait hO => exact hp.congr hO rfl rfl rfl
  | loopCeiling | load => exact fun _ _ h => absurd trivial h
  | powerOn pin _ => exact fun i _ _ => sectionDerived_powerOn pin _ i
  | @sectionTable O s i c _ _ =>
    intro j hj hn
    obtain ⟨hne, hO⟩ := not_or.mp hn
    exact (hp j hj hO).congr rfl (secCfg_writeSectionCfg_other c (Ne.symm hne)) rfl
  | @tend O s i x hx =>
    intro j hj hn
    by_cases hij : i = j
    · subst hij
      have hd := hp i hj hn
      unfold SectionDerived at *
      simp only [sec_setSec_same s x hj, hx.fanCeiling, hx.flow, hx.ceiling, hx.valveFloor, hx.sight]
      exact hd
    · exact (hp j hj hn).congr (sec_setSec_other s x hij) rfl rfl
  | @touch O s i x _ _ =>
    intro j hj hn
    obtain ⟨hne, hO⟩ := not_or.mp hn
    exact (hp j hj hO).congr (sec_setSec_other s x (Ne.symm hne)) rfl rfl
  | @derive O s i =>
    intro j hj hn
    by_cases hij : i = j
    · subst hij
      exact sectionDerived_derive hj
    · exact (hp j hj (not_or.mpr ⟨Ne.symm hij, hn⟩)).congr (sec_derive_other hij) rfl rfl
  | @tick O s _ =>
    intro j hj hn
    have hd := hp j hj hn
    have hsec : (tickPlantTime s).sec j = (s.sec j).tick := sec_withSections_map (s.withPlantTime _) j
    unfold SectionDerived at *
    rw [hsec]
    exact hd

/-- Every update keeps C and L within bounds. -/
theorem Act.ceilings {O O' : Set Nat} {s t : State} (h : Act al (O, s) (O', t)) (hs : CeilingsBounded s) :
    CeilingsBounded t := by
  obtain ⟨hc, hl⟩ := hs
  have written {i : Nat} {x : SectionState} (hx : x.ceiling ≤ 1000 ∨ x.ceiling ≤ (s.sec i).ceiling) :
      CeilingsBounded (s.setSec i x) := by
    refine ⟨fun j hj => ?_, hl⟩
    have hb := hc j hj
    rw [sec_setSec]
    split
    · next h => obtain ⟨rfl, -⟩ := h; omega
    · exact hb
  cases h with
  | postFrost a _ => obtain ⟨x, hx⟩ := postFrost_eq a s; exact hx ▸ ⟨hc, hl⟩
  | postFlush r _ => obtain ⟨x, hx⟩ := postFlush_eq r s; exact hx ▸ ⟨hc, hl⟩
  | postPass r => obtain ⟨x, hx⟩ := postPass_eq r s; exact hx ▸ ⟨hc, hl⟩
  | postProbe t _ => obtain ⟨x, hx⟩ := postProbe_eq t s; exact hx ▸ ⟨hc, hl⟩
  | loop l h => exact ⟨hc, by rw [withLoop_loop, h]; exact hl⟩
  | loopCeiling l h =>
    refine ⟨hc, ?_⟩
    rw [withLoop_loop]
    omega
  | load t _ _ =>
    refine ⟨hc, ?_⟩
    show (if t.loop.supply = 0 then 1000 else 0 : Nat) ≤ 1000
    split <;> omega
  | tend i x hx => exact written (.inr hx.ceiling.le)
  | touch i x hx _ => exact written hx
  | derive i => exact written (.inr le_rfl)
  | tick _ =>
    refine ⟨fun j hj => ?_, hl⟩
    rw [show (tickPlantTime s).sec j = (s.sec j).tick from sec_withSections_map (s.withPlantTime _) j]
    exact hc j hj
  | powerOn pin _ =>
    refine ⟨fun j _ => ?_, le_rfl⟩
    rw [sec_powerOn]
    decide
  | _ => exact ⟨hc, hl⟩

theorem ceilings_step {s t : State} (hs : CeilingsBounded s) (h : step s = .next t) : CeilingsBounded t :=
  step_keeps h (fun _ hs => hs) (fun a hs => a.ceilings hs) (fun _ _ hs => hs) (fun _ hs => hs) hs

end Limits
end Sys2Proof.Machine
end

section
/-! PROOFS. The field side of a part that is STARTING (R154): what a command can do to it. -/

namespace Sys2Proof.Machine

section Quiet

/-- The field side at its power-on values. -/
def FieldQuiet (s : State) : Prop :=
  s.nodes = Vector.replicate 48 .powerOn ∧ s.sections = Vector.replicate 8 .powerOn
    ∧ s.demand = Vector.replicate 48 none ∧ s.loop = .powerOn 0 ∧ s.xe = .powerOn ∧ s.seq = .powerOn
    ∧ s.arb = .powerOn ∧ s.mode = .autonomous

theorem FieldQuiet.settled {s : State} (h : FieldQuiet s) : Settled s := by
  obtain ⟨-, -, -, -, -, hq, ha, -⟩ := h
  exact ⟨by rw [hq]; rfl, by rw [ha]; rfl⟩

theorem fieldQuiet_powerOn (pin : Bool) (s : State) : FieldQuiet (powerOn pin s) :=
  ⟨rfl, rfl, rfl, rfl, rfl, rfl, rfl, rfl⟩

theorem startingQuiet_of_served {s : State} (h : ¬ s.Starting) : StartingQuiet s := fun k => absurd k h

/-- A part does not enter STARTING but by a power-on. -/
theorem Act.served {al : Allow} (hr : ¬ al.reset) {O O' : Set Nat} {s t : State} (h : Act al (O, s) (O', t))
    (hs : ¬ s.Starting) : ¬ t.Starting := by
  cases h with
  | postFrost a _ => obtain ⟨x, hx⟩ := postFrost_eq a s; exact hx ▸ hs
  | postFlush r _ => obtain ⟨x, hx⟩ := postFlush_eq r s; exact hx ▸ hs
  | postPass r => obtain ⟨x, hx⟩ := postPass_eq r s; exact hx ▸ hs
  | postProbe t _ => obtain ⟨x, hx⟩ := postProbe_eq t s; exact hx ▸ hs
  | store x hx => exact fun h => hs (hx.starts h)
  | written x _ hx => exact fun h => nomatch hx.idle.symm.trans h
  | powerOn _ h => exact absurd h hr
  | _ => exact hs

/-- What no power-on is taken in. -/
def withoutReset : Allow where
  walk := True
  window := True
  load _ := False
  written _ := True
  tick := True
  reset := False

theorem Acts.served {s t : State} (h : Acts withoutReset s t) (hs : ¬ s.Starting) : ¬ t.Starting :=
  reach_keeps (fun a => a.served id) (h.reach ∅) hs

/-- The end of a command keeps the field side of a STARTING part quiet. -/
theorem finish_quiet {s : State} (h : StartingQuiet s) : StartingQuiet (finish s) := by
  by_cases hs : s.Starting
  · rw [finish_of_settled (FieldQuiet.settled (h hs))]
    exact h
  · exact startingQuiet_of_served ((acts_finish trivial s).served hs)

/-- A command that stands in STARTING, and takes no power-on outside it, keeps the field side quiet. -/
theorem quiet_of {s t : State} (hs : StartingQuiet s) (hq : s.Starting → FieldQuiet s → FieldQuiet t)
    (hn : Acts withoutReset s t) : StartingQuiet t := by
  by_cases h : s.Starting
  · exact fun _ => hq h (hs h)
  · exact startingQuiet_of_served (hn.served h)

/-! ## Reports and requests -/

/-- Only the Event Unit and the Link Unit are written. -/
def ReportsOnly (s t : State) : Prop := ∃ eu lu, t = (s.withEu eu).withLu lu

theorem ReportsOnly.trans {s t u : State} (h : ReportsOnly s t) (k : ReportsOnly t u) : ReportsOnly s u := by
  obtain ⟨e, l, rfl⟩ := h
  obtain ⟨e', l', rfl⟩ := k
  exact ⟨e', l', rfl⟩

theorem ReportsOnly.lu {s : State} (u : LinkUnit) : ReportsOnly s (s.withLu u) := ⟨s.eu, u, rfl⟩

theorem ReportsOnly.quiet {s t : State} (h : ReportsOnly s t) (hs : FieldQuiet s) : FieldQuiet t := by
  obtain ⟨e, l, rfl⟩ := h
  exact hs

theorem ReportsOnly.starting {s t : State} (h : ReportsOnly s t) : t.Starting ↔ s.Starting := by
  obtain ⟨e, l, rfl⟩ := h
  exact Iff.rfl

theorem queueReport_reportsOnly (r : Report) (s : State) : ReportsOnly s (queueReport r s) := by
  obtain ⟨rs, n, eu, h⟩ := queueReport_frame r s
  exact ⟨eu, _, h⟩

theorem inform_reportsOnly (c : InfoClass) (x : Subject) (d : Byte) (s : State) : ReportsOnly s (inform c x d s) :=
  queueReport_reportsOnly _ s

theorem raise_reportsOnly (c : EventClass) (x : Subject) (d : Byte) (s : State) : ReportsOnly s (raise c x d s) := by
  unfold raise
  dsimp only
  rw [setFlag_eq]
  have set : ReportsOnly s (s.withEu (unitAfter s c)) := ⟨unitAfter s c, s.lu, rfl⟩
  split
  · exact set
  · exact set.trans (queueReport_reportsOnly _ _)

theorem linkTaken_reportsOnly (s : State) : ReportsOnly s (linkTaken s) := by
  unfold linkTaken
  dsimp only
  split
  · exact (ReportsOnly.lu _).trans (inform_reportsOnly ..)
  · exact .lu _

/-- A valid frame whose execution stands in STARTING, and outside it takes no power-on but at its end, keeps the field
side quiet. -/
theorem takeValid_quiet {execute : State → Served} {kind tag : Byte} {s : State} (hs : StartingQuiet s)
    (starting : ∀ u : State, u.Starting → (execute u).1 = u)
    (served : ∀ u : State, ¬ u.Starting → ¬ (execute u).1.Starting ∨ ∃ pin, execute u = (powerOn pin u, none)) :
    StartingQuiet (takeValid kind tag execute s) := by
  have taken := linkTaken_reportsOnly s
  have quiet : StartingQuiet (linkTaken s) := fun h => taken.quiet (hs (taken.starting.mp h))
  unfold takeValid
  dsimp only
  split
  · exact quiet
  have executed : StartingQuiet (execute (linkTaken s)).1 := by
    by_cases h : (linkTaken s).Starting
    · rw [starting _ h]
      exact quiet
    · rcases served _ h with hn | ⟨pin, hp⟩
      · exact startingQuiet_of_served hn
      · rw [hp]
        exact fun _ => fieldQuiet_powerOn ..
  split
  · next u a hx =>
    rw [hx] at executed
    exact executed
  · next u hx =>
    rw [hx] at executed
    exact executed

theorem request_quiet {body : State → Served} {kind tag : Byte} {idle : List Byte} {s : State} (hs : StartingQuiet s)
    (hb : Serves withoutReset body) : StartingQuiet (request kind tag idle body s) := by
  refine finish_quiet (takeValid_quiet hs (fun u hu => by rw [whileServed_starting hu]) fun u hu => .inl ?_)
  rw [whileServed_served hu]
  exact (hb u).served hu

/-- R170: a RESET LINK takes a power-on at its end or none. -/
theorem serveResetLink_served {s : State} (hs : ¬ s.Starting) :
    ¬ (serveResetLink s).1.Starting ∨ ∃ pin, serveResetLink s = (powerOn pin s, none) := by
  unfold serveResetLink
  split
  · exact .inr ⟨_, rfl⟩
  · exact .inl hs

theorem serveFrame_starting {kind tag : Byte} {payload : List Byte} {s : State} (hs : s.Starting) :
    (serveFrame kind tag payload s).1 = s := by
  unfold serveFrame
  split
  · rw [whileServed_starting hs]
  split
  · rw [whileServed_starting hs]
  split
  · rw [whileServed_starting hs]
  split
  · rw [whileServed_starting hs]
  split
  · rw [whileServed_starting hs]
  · rfl

theorem serveFrame_served {kind tag : Byte} {payload : List Byte} {s : State} (hs : ¬ s.Starting) :
    ¬ (serveFrame kind tag payload s).1.Starting ∨ ∃ pin, serveFrame kind tag payload s = (powerOn pin s, none) := by
  by_cases h : kind = kindCommand ∧ payload = [9, 1]
  · obtain ⟨rfl, rfl⟩ := h
    have : serveFrame kindCommand tag [9, 1] s = serveResetLink s := by
      rw [show serveFrame kindCommand tag [9, 1] s = whileServed [9] (serveCommandFrame [9, 1]) s from rfl,
        whileServed_served hs]
      rfl
    rw [this]
    exact serveResetLink_served hs
  · have := serves_frame (al := withoutReset) trivial tag (fun hk hp => absurd ⟨hk, hp⟩ h) s
    exact .inl (this.served hs)

theorem takeFrame_quiet {kind tag : Byte} {payload : List Byte} {s : State} (hs : StartingQuiet s) :
    StartingQuiet (takeFrame kind tag payload s) :=
  finish_quiet (takeValid_quiet hs (fun _ => serveFrame_starting) fun _ => serveFrame_served)

theorem feed_quiet (closing : Bool) (fuel : Nat) (octets : List Byte) {s : State} (hs : StartingQuiet s) :
    StartingQuiet (feed closing fuel octets s) := by
  induction fuel generalizing octets s with
  | zero => exact hs
  | succ fuel ih =>
    cases octets with
    | nil =>
      unfold feed
      split
      · exact ih _ hs
      · exact hs
      · exact hs
    | cons b rest =>
      unfold feed
      split
      · exact ih _ hs
      · exact ih _ hs
      · exact ih _ hs
      · dsimp only
        split
        · exact takeFrame_quiet hs
        · exact ih _ (takeFrame_quiet hs)

/-! ## Commands -/

theorem abandonAndRescan_quiet (e : RxError) {s : State} (hs : StartingQuiet s) :
    StartingQuiet (abandonAndRescan e s) := feed_quiet _ _ _ hs

theorem receiveBad_quiet {s : State} (hs : StartingQuiet s) : StartingQuiet (receiveBad s) := by
  unfold receiveBad
  split
  · exact hs
  · exact abandonAndRescan_quiet _ hs

theorem gapExpiry_quiet {s : State} (hs : StartingQuiet s) : StartingQuiet (gapExpiry s) := by
  unfold gapExpiry
  split
  · exact hs
  · exact abandonAndRescan_quiet _ hs

theorem FieldQuiet.sec {s : State} (h : FieldQuiet s) (i : Nat) : s.sec i = .powerOn := by
  obtain ⟨-, hx, -⟩ := h
  simp only [State.sec, hx, Vector.getElem?_replicate]
  split <;> rfl

theorem FieldQuiet.node {s : State} (h : FieldQuiet s) (a : Nat) : s.node a = .powerOn := by
  obtain ⟨hn, -⟩ := h
  simp only [State.node, hn, Vector.getElem?_replicate]
  split
  · rfl
  · split <;> rfl

theorem FieldQuiet.lane {s : State} (h : FieldQuiet s) (l : Lane) : s.lane l = .powerOn := by
  obtain ⟨-, -, -, -, hx, -⟩ := h
  cases l <;> simp only [State.lane, hx] <;> rfl

theorem FieldQuiet.flight {s : State} (h : FieldQuiet s) : s.xe.flight = none := by
  obtain ⟨-, -, -, -, hx, -⟩ := h
  rw [hx]
  rfl

/-- Where nothing is in flight, the ends of an attempt's phases do nothing. -/
theorem failIn_of_none {p : Phase} {e : TransferError} {s : State} (h : s.xe.flight = none) : failIn p e s = s := by
  unfold failIn
  rw [h]

theorem hearOctet_of_none {l : Lane} {b : Byte} {bad : Bool} {s : State} (h : s.xe.flight = none) :
    hearOctet l b bad s = s := by
  unfold hearOctet
  rw [h]

/-- R155: a tick leaves a part at its power-on values there. -/
theorem tick_quiet {s : State} (h : FieldQuiet s) : FieldQuiet (tickPlantTime s) := by
  obtain ⟨h1, h2, h3, h4, h5, h6, h7, h8⟩ := h
  refine ⟨h1, ?_, h3, h4, h5, h6, h7, h8⟩
  show s.sections.map SectionState.tick = _
  rw [h2, Vector.map_replicate]
  rfl

/-- R164: a part that is AUTONOMOUS takes no change of mode from the loss of its link. -/
theorem takeLinkLoss_of_autonomous {s : State} (h : s.mode = .autonomous) : takeLinkLoss s = s := by
  unfold takeLinkLoss
  rw [if_neg]
  rw [h]
  exact fun h => nomatch h.2

theorem loseLink_quiet {s : State} (h : FieldQuiet s) : FieldQuiet (loseLink s) := by
  have lost := (ReportsOnly.lu (s := s) { s.lu with link := .lost, linkTimer := none }).trans
    (raise_reportsOnly .linkLost .none 0 _)
  have hq := lost.quiet h
  obtain ⟨-, -, -, -, -, -, -, hm⟩ := hq
  unfold loseLink
  rw [takeLinkLoss_of_autonomous hm]
  exact lost.quiet h

theorem idleOver_quiet {s : State} (h : FieldQuiet s) : FieldQuiet (idleOver s) := by
  obtain ⟨h1, h2, h3, h4, h5, h6, h7, h8⟩ := h
  refine ⟨h1, h2, h3, h4, ?_, h6, h7, h8⟩
  simp only [idleOver, withXe_xe, h5]
  rfl

theorem frameSent_quiet {s : State} (h : FieldQuiet s) : FieldQuiet (frameSent s) := by
  obtain ⟨h1, h2, h3, h4, h5, h6, h7, h8⟩ := h
  refine ⟨h1, h2, h3, h4, ?_, h6, h7, h8⟩
  simp only [frameSent, withXe_xe, h5]
  rfl

theorem elapse_quiet {s : State} (h : FieldQuiet s) : FieldQuiet (elapse s) := by
  obtain ⟨h1, h2, h3, h4, h5, h6, h7, h8⟩ := h
  refine ⟨h1, h2, h3, h4, ?_, ?_, ?_, h8⟩
  · simp only [elapse, withLu_xe, withXe_xe, h5]
    rfl
  · simp only [elapse, withLu_seq, withXe_seq, withArb_seq, withSeq_seq, h6]
    rfl
  · simp only [elapse, withLu_arb, withXe_arb, withArb_arb, h7]
    rfl

theorem frameEnd_quiet {s : State} (hs : StartingQuiet s) : StartingQuiet (frameEnd s) := by
  unfold frameEnd
  split
  · split
    · exact fun _ => fieldQuiet_powerOn ..
    · exact hs
  · exact hs

/-- R156: the tables of an image are loaded, derived and checked. -/
def imageJudged (t : ConfigTables) (s : State) : State :=
  pumpCheck (forSections deriveAndCheck ((s.withCfg t).withLoop (.powerOn t.loop.supply)))

/-- R156: the store goes IDLE with a valid image, and the stream to HOLD. -/
def imageTaken (s : State) : State :=
  let idle := s.withStore { s.store with state := .idle, image := .valid }
  idle.withLu { idle.lu with stream := .hold }

theorem startFromImage_eq (t : ConfigTables) (s : State) :
    startFromImage t s = driveLines (startAt 0 (forSections startEnabled (imageTaken (imageJudged t s)))) := by
  unfold startFromImage imageTaken imageJudged
  rfl

theorem imageJudged_store (t : ConfigTables) (s : State) : (imageJudged t s).store = s.store := loadTables_store s t _

theorem driveLines_eq (s : State) : ∃ eu, driveLines s = s.withEu eu := by
  unfold driveLines
  split <;> exact ⟨_, rfl⟩

theorem startEnabled_eq (i : Nat) (s : State) : ∃ x, startEnabled i s = s.withSections x := by
  unfold startEnabled
  split
  · exact ⟨_, rfl⟩
  · exact ⟨s.sections, rfl⟩

/-- R156: the starting of the interval timers touches the sections alone. -/
theorem startTimers_eq (s : State) : ∃ x, forSections startEnabled s = s.withSections x :=
  forSections_keeps (P := fun t => ∃ x, t = s.withSections x)
    (fun i t ⟨x, hx⟩ => by obtain ⟨y, hy⟩ := startEnabled_eq i t; exact ⟨y, by rw [hy, hx]; rfl⟩) ⟨s.sections, rfl⟩

/-- What a part that leaves STARTING with a valid image looks like beside its judged tables. -/
theorem startFromImage_frame (t : ConfigTables) (s : State) : ∃ eu x, startFromImage t s =
    (startAt 0 ((imageTaken (imageJudged t s)).withSections x)).withEu eu := by
  rw [startFromImage_eq]
  generalize imageTaken (imageJudged t s) = j
  obtain ⟨x, hx⟩ := startTimers_eq j
  obtain ⟨eu, he⟩ := driveLines_eq (startAt 0 (j.withSections x))
  exact ⟨eu, x, by rw [hx, he]⟩

/-- The store of a part that leaves STARTING with a valid image. -/
theorem startFromImage_store (t : ConfigTables) (s : State) :
    (startFromImage t s).store = { s.store with state := .idle, image := .valid } := by
  obtain ⟨eu, x, h⟩ := startFromImage_frame t s
  rw [h, ← imageJudged_store t s]
  rfl

/-- R157: the default tables are taken, the store goes IDLE, and STORE_FAULT is raised. -/
theorem startFromDefaults_frame (image : ImageState) (cause : StoreCause) (s : State) :
    ∃ eu lu, startFromDefaults image cause s = ((((s.withCfg defaultTables).withLoop (.powerOn 0)).withStore
      { s.store with state := .idle, image := image }).withEu eu).withLu lu := by
  obtain ⟨eu, lu, h⟩ := raise_reportsOnly .storeFault .none cause.code
    ((((s.withCfg defaultTables).withLoop (.powerOn 0)).withStore
      { s.store with state := .idle, image := image }).withLu { s.lu with stream := .hold })
  exact ⟨eu, lu, h⟩

theorem startFromDefaults_store (image : ImageState) (cause : StoreCause) (s : State) :
    (startFromDefaults image cause s).store = { s.store with state := .idle, image := image } := by
  obtain ⟨eu, lu, h⟩ := startFromDefaults_frame image cause s
  rw [h]
  rfl

theorem startupRead_quiet {read : ReadBack} {s : State} (hs : StartingQuiet s) : StartingQuiet (startupRead read s) := by
  unfold startupRead
  split
  · refine startingQuiet_of_served fun h => ?_
    unfold State.Starting endStarting at h
    dsimp only at h
    split at h
    · split at h
      · rw [startFromImage_store] at h
        cases h
      · rw [startFromDefaults_store] at h
        cases h
    · rw [startFromDefaults_store] at h
      cases h
  · exact hs

theorem storeWritten_quiet {read : ReadBack} {s : State} (hs : StartingQuiet s) :
    StartingQuiet (storeWritten read s) := by
  refine quiet_of hs (fun h hq => ?_) (acts_storeWritten read fun _ => trivial)
  unfold storeWritten
  rw [if_neg (by rw [h]; decide)]
  exact hq

/-- Every command keeps the field side at its power-on values while STARTING. -/
theorem exec_quiet {c : Instr} {s t : State} (hs : StartingQuiet s) (h : exec c s = .next t) : StartingQuiet t := by
  have stands {u : State} (hn : Acts withoutReset s u) (hq : FieldQuiet s → u = s) : StartingQuiet (finish u) :=
    finish_quiet (quiet_of hs (fun _ k => by rw [hq k]; exact k) hn)
  have moves {u : State} (hn : Acts withoutReset s u) (hq : FieldQuiet s → FieldQuiet u) : StartingQuiet (finish u) :=
    finish_quiet (quiet_of hs (fun _ => hq) hn)
  cases c <;> cases h
  case powerOnReset => exact finish_quiet fun _ => fieldQuiet_powerOn ..
  case startupReadEnd => exact finish_quiet (startupRead_quiet hs)
  case plantTimeTick => exact moves (.of fun _ => .tick trivial) tick_quiet
  case receiverOctet octet charError =>
    cases charError
    · exact feed_quiet _ _ _ hs
    · exact receiveBad_quiet hs
  case gapTimerExpiry => exact gapExpiry_quiet hs
  case demand => exact request_quiet hs (serves_demand _)
  case tableWriteCycle => exact request_quiet hs (serves_write cycleRules_acting _ _ _)
  case tableWriteNode => exact request_quiet hs (serves_write nodeRules_acting _ _ _)
  case tableWriteSection => exact request_quiet hs (serves_write sectionRules_acting _ _ _)
  case tableWriteLoop => exact request_quiet hs (serves_write loopRules_acting _ _ _)
  case tableWriteDemand => exact request_quiet hs (serves_write demandRules_acting _ _ _)
  case tableWriteHold => exact request_quiet hs (serves_write holdRules_acting _ _ _)
  case tableWriteAlarmMap => exact request_quiet hs (serves_write alarmRules_acting _ _ _)
  case tableWriteLinkSet => exact request_quiet hs (serves_write linkSetRules_acting _ _ _)
  case tableRead => exact request_quiet hs (serves_read _ _ _)
  case pass => exact request_quiet hs (serves_pass _ _ _ _ _)
  case start => exact request_quiet hs (serves_start trivial _)
  case stop => exact request_quiet hs (serves_stop trivial)
  case reports => exact request_quiet hs (serves_reports _)
  case resume => exact request_quiet hs serves_resume
  case hold => exact request_quiet hs serves_hold
  case reviveNode => exact request_quiet hs (serves_reviveNode _)
  case reviveLane => exact request_quiet hs (serves_reviveLane _)
  case flush => exact request_quiet hs (serves_flush _)
  case ack => exact request_quiet hs (serves_ack _)
  case resetField => exact request_quiet hs (serves_resetField trivial)
  case resetLink =>
    refine finish_quiet (takeValid_quiet hs (fun u hu => by rw [whileServed_starting hu]) fun u hu => ?_)
    rw [whileServed_served hu]
    exact serveResetLink_served hu
  case resetFull => exact request_quiet hs serves_resetFull
  case save => exact request_quiet hs serves_save
  case clear => exact request_quiet hs serves_clear
  case idleTimeEnd => exact moves (acts_withXe s _) idleOver_quiet
  case commandFrameSent => exact moves (acts_withXe s _) frameSent_quiet
  case responseTimerExpiry => exact stands (acts_failIn trivial _ _ s) fun h => failIn_of_none h.flight
  case replyOctet => exact stands (acts_hearOctet trivial _ _ _ s) fun h => hearOctet_of_none h.flight
  case replyGapExpiry => exact stands (acts_failIn trivial _ _ s) fun h => failIn_of_none h.flight
  case replyWindowExpiry => exact stands (acts_failIn trivial _ _ s) fun h => failIn_of_none h.flight
  case waitTimerExpiry =>
    refine stands (acts_waitOver trivial s) fun ⟨_, _, _, _, _, hq, _⟩ => if_neg ?_
    rw [hq]
    decide
  case laneProbeCountdownEnd lane =>
    refine stands (acts_laneCountdownOver _ s) fun h => if_neg ?_
    rw [h.lane]
    decide
  case nodeProbeCountdownEnd node =>
    refine stands (acts_nodeCountdownOver _ s) fun h => if_neg ?_
    rw [h.node]
    decide
  case minorCycleTimerZero =>
    refine stands (acts_cycleTimerZero trivial s) fun ⟨_, _, _, _, _, hq, _⟩ => if_neg ?_
    rw [hq]
    decide
  case intervalTimerExpiry sec =>
    refine stands (acts_intervalOver _ s) fun h => if_neg ?_
    rw [h.sec]
    decide
  case flushTimerExpiry sec =>
    refine stands (acts_flushOver _ s) fun h => if_neg ?_
    rw [h.sec]
    decide
  case storeWriteEnd => exact finish_quiet (storeWritten_quiet hs)
  case linkTimerExpiry =>
    refine moves (acts_linkOver s) fun h => ?_
    unfold linkOver
    split
    · exact loseLink_quiet h
    · exact h
  case fillTimerExpiry =>
    refine moves (acts_fillExpiry s) fun h => ?_
    unfold fillExpiry
    split
    · exact h
    · exact h
  case transmitFrameEnd => exact finish_quiet (frameEnd_quiet hs)

theorem step_quiet {s t : State} (hs : StartingQuiet s) (h : step s = .next t) : StartingQuiet t := by
  cases hp : s.pending with
  | nil =>
    rw [step, hp] at h
    cases h
    exact finish_quiet fun hn => elapse_quiet (hs hn)
  | cons c rest => exact exec_quiet (s := s.withPending rest) hs (step_command hp h)

end Quiet

/-! ## E and V at a step -/

section Derived

/-- What every update keeps of E and V, moves in order keep. -/
theorem Moves.derived {al : Allow} {s t : State} (h : Moves al s t) (hs : LimitsDerived s) : LimitsDerived t := by
  induction h with
  | refl => exact hs
  | tail _ hm ih =>
    cases hm with
    | acts ha =>
      exact fun i hi => ha.keeps (P := DerivedBut) (O := ∅) (fun _ _ a => a.derived) (fun j hj _ => ih j hj) i hi id
    | answer => exact ih
    | receiver => exact ih

/-- R157: the part that leaves STARTING on the defaults keeps its sections at their power-on values. -/
theorem startFromDefaults_derived (image : ImageState) (cause : StoreCause) {s : State} (hs : FieldQuiet s) :
    LimitsDerived (startFromDefaults image cause s) := by
  obtain ⟨eu, lu, h⟩ := startFromDefaults_frame image cause s
  intro i _
  have hsec : (startFromDefaults image cause s).sec i = .powerOn := by
    rw [h]
    exact hs.sec i
  unfold SectionDerived
  rw [hsec]
  refine ⟨?_, rfl⟩
  show 0 = fanCeilingOf .parked 0 _
  simp [fanCeilingOf]

/-- R156: the part that leaves STARTING with a valid image derives its sections. -/
theorem startFromImage_derived (t : ConfigTables) {s : State} (hs : s.Starting) (hv : holdsValid s.store.stored = true)
    (hd : LimitsDerived s) : LimitsDerived (startFromImage t s) :=
  (acts_startFromImage (al := ⟨True, True, fun _ => True, fun _ => True, True, True⟩) trivial t hs trivial hv).moves.derived hd

theorem endStarting_derived {image : Option StoredImage} {s : State} (h : s.Starting) (hq : FieldQuiet s)
    (hd : LimitsDerived s) : LimitsDerived (endStarting image s) := by
  unfold endStarting
  dsimp only
  split
  · next i =>
    split
    · next hc => exact startFromImage_derived (s := s.withStore { s.store with stored := some i }) _ h hc hd
    · exact startFromDefaults_derived _ _ hq
  · exact startFromDefaults_derived _ _ hq

theorem startupRead_derived {read : ReadBack} {s : State} (hs : StartingQuiet s) (hd : LimitsDerived s) :
    LimitsDerived (startupRead read s) := by
  unfold startupRead
  split
  · next h => exact endStarting_derived h (hs h) hd
  · exact hd

theorem step_derived {s t : State} (hs : StartingQuiet s) (hd : LimitsDerived s) (h : step s = .next t) :
    LimitsDerived t := by
  cases hp : s.pending with
  | nil => exact (step_time hp h).derived hd
  | cons c rest =>
    have hc := step_command hp h
    rcases exec_permitted hc with ⟨-, hm⟩ | ⟨⟨read, rfl⟩, -⟩
    · exact hm.derived hd
    · cases hc
      exact (acts_finish (al := withoutReset) trivial _).moves.derived (startupRead_derived hs hd)

/-- Settles O57: the frost limits go through the elementary updates, and a STARTING part through its commands. -/
theorem frostLimitsHold : Obligations.FrostLimitsHold := by
  intro s t hd hc hq h
  exact ⟨step_derived hq hd h, ceilings_step hc h, step_quiet hq h⟩

end Derived
end Sys2Proof.Machine
end

section
/-! PROOFS. The queues and their keys, the flush balances, the store, the receiver and plant time at every step. -/

namespace Sys2Proof.Machine

/-! ## Queues (R122, R162, R167) -/

section Queues
variable {al : Allow}

/-- The queues' part of R122. -/
theorem QueuesBounded.arbiter {s : State} {a : Arbiter} (h : QueuesBounded s) (hf : a.frost.Nodup)
    (hl : (a.flush.map FlushRequest.key).Nodup) (hb : a.probe.Nodup) (hp : a.pass.length ≤ 8) :
    QueuesBounded (s.withArb a) := by
  obtain ⟨-, -, -, -, hr, hs⟩ := h
  exact ⟨hf, hl, hb, hp, hr, hs⟩

theorem queuesBounded_postFrost {s : State} (a : Nat) (h : QueuesBounded s) : QueuesBounded (postFrost a s) := by
  unfold postFrost
  split
  · exact h
  · next hn =>
    obtain ⟨hf, hl, hb, hp, -⟩ := id h
    refine QueuesBounded.arbiter (s := s.withArb _) (h.arbiter ?_ hl hb hp) ?_ hl hb hp
    all_goals
      have hn : a ∉ s.arb.frost := by simpa using hn
      exact List.nodup_append.mpr ⟨hf, List.nodup_singleton a, by rintro x hx y hy rfl; simp_all⟩

theorem sameKey_iff {x r : FlushRequest} : x.sameKey r = true ↔ x.key = r.key := by
  simp [FlushRequest.sameKey, FlushRequest.key]

theorem queuesBounded_postFlush {s : State} (r : FlushRequest) (h : QueuesBounded s) : QueuesBounded (postFlush r s) := by
  obtain ⟨hf, hl, hb, hp, -⟩ := id h
  unfold postFlush
  split
  · split
    · refine h.arbiter hf ?_ hb hp
      have keys : (s.arb.flush.map fun x => if x.sameKey r then { x with mandatory := true } else x).map
          FlushRequest.key = s.arb.flush.map FlushRequest.key := by
        rw [List.map_map]
        refine List.map_congr_left fun x _ => ?_
        dsimp only [Function.comp]
        split <;> rfl
      rw [keys]
      exact hl
    · exact h
  · next hn =>
    have joined : ((s.arb.flush ++ [r]).map FlushRequest.key).Nodup := by
      rw [List.map_append]
      refine List.nodup_append.mpr ⟨hl, List.nodup_singleton _, ?_⟩
      rintro k hk k' hk' rfl
      obtain ⟨x, hx, hxk⟩ := List.mem_map.mp hk
      refine hn (List.any_eq_true.mpr ⟨x, hx, sameKey_iff.mpr ?_⟩)
      simpa [hxk] using hk'
    exact QueuesBounded.arbiter (s := s.withArb _) (h.arbiter hf joined hb hp) hf joined hb hp

theorem queuesBounded_postPass {s : State} (r : PassRequest) (h : QueuesBounded s) : QueuesBounded (postPass r s) := by
  obtain ⟨hf, hl, hb, -, -⟩ := id h
  unfold postPass
  split
  · next hroom =>
    have joined : (s.arb.pass ++ [r]).length ≤ 8 := by
      unfold passCapacity at hroom
      simp only [List.length_append, List.length_singleton]
      omega
    exact QueuesBounded.arbiter (s := s.withArb _) (h.arbiter hf hl hb joined) hf hl hb joined
  · exact h

theorem queuesBounded_postProbe {s : State} (t : ProbeTarget) (h : QueuesBounded s) : QueuesBounded (postProbe t s) := by
  obtain ⟨hf, hl, hb, hp, -⟩ := id h
  unfold postProbe
  split
  · exact h
  · next hn =>
    have hn : t ∉ s.arb.probe := by simpa using hn
    have joined : (s.arb.probe ++ [t]).Nodup :=
      List.nodup_append.mpr ⟨hb, List.nodup_singleton t, by rintro x hx y hy rfl; simp_all⟩
    exact QueuesBounded.arbiter (s := s.withArb _) (h.arbiter hf hl joined hp) hf hl joined hp

/-- Every update keeps the queues. -/
theorem Act.queuesBounded {O O' : Set Nat} {s t : State} (h : Act al (O, s) (O', t)) (hs : QueuesBounded s) :
    QueuesBounded t := by
  obtain ⟨hf, hl, hb, hp, hr, hq⟩ := id hs
  cases h with
  | link u hu =>
    refine ⟨hf, hl, hb, hp, hu.responses.trans hr, ?_⟩
    rcases hu.reports with h | h
    · exact h.trans hq
    · exact h
  | queues a ha =>
    exact hs.arbiter (ha.frost.nodup hf) (ha.flush.nodup hl) (ha.probe.nodup hb) (ha.pass.trans hp)
  | postFrost a _ => exact queuesBounded_postFrost a hs
  | postFlush r _ => exact queuesBounded_postFlush r hs
  | postPass r => exact queuesBounded_postPass r hs
  | postProbe t _ => exact queuesBounded_postProbe t hs
  | powerOn pin _ => exact ⟨.nil, .nil, .nil, Nat.zero_le _, Nat.zero_le _, Nat.zero_le _⟩
  | _ => exact hs

theorem queues_step {s t : State} (hs : QueuesBounded s) (h : step s = .next t) : QueuesBounded t := by
  refine step_keeps h (fun _ hs => hs) (fun a hs => a.queuesBounded hs) (fun r hr hs => ?_) (fun _ hs => hs) hs
  obtain ⟨hf, hl, hb, hp, -, hq⟩ := hs
  refine ⟨hf, hl, hb, hp, ?_, hq⟩
  simp only [withLu_lu, List.length_append, List.length_singleton]
  omega

/-- R122: with no key twice and the keys in range, FROST holds at most 48 entries, FLUSH 16 and PROBE 50. -/
theorem queue_lengths {s : State} (h : QueuesBounded s) (k : KeysInRange s) :
    s.arb.frost.length ≤ 48 ∧ s.arb.flush.length ≤ 16 ∧ s.arb.probe.length ≤ 50 := by
  obtain ⟨hf, hl, hb, -⟩ := h
  obtain ⟨kf, kl, kb⟩ := k
  refine ⟨?_, ?_, ?_⟩
  · have sub : s.arb.frost ⊆ nodeAddresses := fun a ha => mem_nodeAddresses.mpr (kf a ha)
    simpa [nodeAddresses] using (List.subperm_of_subset hf sub).length_le
  · have sub : s.arb.flush.map FlushRequest.key ⊆ sectionNumbers ×ˢ [FlushKind.pulseStart, .pulseEnd] := by
      intro x hx
      obtain ⟨r, hr, rfl⟩ := List.mem_map.mp hx
      refine List.mem_product.mpr ⟨mem_sectionNumbers.mpr (kl r hr), ?_⟩
      show r.kind ∈ _
      cases r.kind <;> simp
    simpa [sectionNumbers, List.length_product] using (List.subperm_of_subset hl sub).length_le
  · have sub : s.arb.probe ⊆ [ProbeTarget.lane .a, .lane .b] ++ nodeAddresses.map .node := by
      intro t ht
      cases t with
      | lane l => cases l <;> simp
      | node a => simpa using mem_nodeAddresses.mpr (kb a ht)
    simpa [nodeAddresses] using (List.subperm_of_subset hb sub).length_le

end Queues

/-! ## Balances (R55) -/

section Balances
variable {al : Allow}

/-- Every update keeps the balances. -/
theorem Act.balances {O O' : Set Nat} {s t : State} (h : Act al (O, s) (O', t)) (hs : BalancesBounded s) :
    BalancesBounded t := by
  have written {i : Nat} {x : SectionState} (hx : BalanceKept (s.sec i).balance x.balance) :
      BalancesBounded (s.setSec i x) := by
    intro j hj
    obtain ⟨hlo, hhi⟩ := hs j hj
    rw [sec_setSec]
    split
    · next h =>
      obtain ⟨rfl, -⟩ := h
      exact hx hlo hhi
    · exact ⟨hlo, hhi⟩
  cases h with
  | postFrost a _ => obtain ⟨x, hx⟩ := postFrost_eq a s; exact hx ▸ hs
  | postFlush r _ => obtain ⟨x, hx⟩ := postFlush_eq r s; exact hx ▸ hs
  | postPass r => obtain ⟨x, hx⟩ := postPass_eq r s; exact hx ▸ hs
  | postProbe t _ => obtain ⟨x, hx⟩ := postProbe_eq t s; exact hx ▸ hs
  | tend i x hx => exact written hx.balance
  | touch i x _ hx => exact written hx
  | derive i => exact written (.refl _)
  | tick _ =>
    intro j hj
    rw [show (tickPlantTime s).sec j = (s.sec j).tick from sec_withSections_map (s.withPlantTime _) j]
    exact hs j hj
  | powerOn pin _ =>
    intro j _
    rw [sec_powerOn]
    decide
  | _ => exact hs

theorem balances_step {s t : State} (hs : BalancesBounded s) (h : step s = .next t) : BalancesBounded t :=
  step_keeps h (fun _ hs => hs) (fun a hs => a.balances hs) (fun _ _ hs => hs) (fun _ hs => hs) hs

end Balances

/-! ## Keys (R122) -/

section Keys
variable {al : Allow}

/-- Keys and tables in range. -/
def InRange (s : State) : Prop := KeysInRange s ∧ TablesInRange s

theorem rolesInRange_default : RolesInRange defaultTables := by
  refine ⟨fun c hc => ?_, fun a ha => nomatch ha⟩
  have : c = defaultSection := by
    simpa [defaultTables] using hc
  subst this
  exact ⟨Nat.zero_le _, fun a ha => nomatch ha⟩

/-- R20: the record of a section names nodes of the part. -/
theorem RolesInRange.section {s : State} (h : RolesInRange s.cfg) (i : Nat) :
    (s.secCfg i).valve ≤ 48 ∧ ∀ a ∈ (s.secCfg i).fans, InPart a := by
  unfold State.secCfg
  cases hc : s.cfg.sections[i]? with
  | none => exact ⟨Nat.zero_le _, fun a ha => nomatch ha⟩
  | some c => exact h.1 c (by simpa using Vector.mem_of_getElem? hc)

/-- R20: a node with a role is one of the part. -/
theorem RolesInRange.roleAt {s : State} (h : RolesInRange s.cfg) {a : Nat} (ha : RoleAt s a) : InPart a := by
  rcases ha with ⟨i, ha | ⟨rfl, h0⟩⟩ | ha
  · exact (h.section i).2 a ha
  · have := (h.section i).1
    exact ⟨by omega, this⟩
  · exact h.2 a ha

/-- Every update keeps keys and tables in range, where what may be loaded or written is. -/
theorem Act.inRange (hload : ∀ t, al.load t → RolesInRange t)
    (hwrite : ∀ i, al.written (some i) → RolesInRange i.tables) {O O' : Set Nat} {s t : State}
    (h : Act al (O, s) (O', t)) (hs : InRange s) : InRange t := by
  obtain ⟨⟨kf, kl, kb⟩, hcfg, hstored, hcopy⟩ := id hs
  cases h with
  | queues a ha =>
    refine ⟨⟨fun x hx => kf x (ha.frost.subset hx), fun r hr => ?_, fun x hx => kb x (ha.probe.subset hx)⟩,
      hcfg, hstored, hcopy⟩
    obtain ⟨r', hr', he⟩ := List.mem_map.mp (ha.flush.subset (List.mem_map_of_mem hr))
    have hsec : r'.sec = r.sec := congrArg Prod.fst he
    exact hsec ▸ kl r' hr'
  | postFrost a ha =>
    unfold Machine.postFrost
    split
    · exact hs
    · refine ⟨⟨fun x hx => ?_, kl, kb⟩, hcfg, hstored, hcopy⟩
      rcases List.mem_append.mp hx with hx | hx
      · exact kf x hx
      · rw [List.mem_singleton.mp hx]
        exact hcfg.roleAt ha
  | postFlush r hr =>
    unfold Machine.postFlush
    split
    · split
      · refine ⟨⟨kf, fun x hx => ?_, kb⟩, hcfg, hstored, hcopy⟩
        obtain ⟨y, hy, rfl⟩ := List.mem_map.mp hx
        split
        · exact kl y hy
        · exact kl y hy
      · exact hs
    · refine ⟨⟨kf, fun x hx => ?_, kb⟩, hcfg, hstored, hcopy⟩
      rcases List.mem_append.mp hx with hx | hx
      · exact kl x hx
      · rw [List.mem_singleton.mp hx]
        exact hr
  | postPass r =>
    unfold Machine.postPass
    split
    · exact ⟨⟨kf, kl, kb⟩, hcfg, hstored, hcopy⟩
    · exact hs
  | postProbe t ht =>
    unfold Machine.postProbe
    split
    · exact hs
    · refine ⟨⟨kf, kl, fun x hx => ?_⟩, hcfg, hstored, hcopy⟩
      rcases List.mem_append.mp hx with hx | hx
      · exact kb x hx
      · exact ht x (List.mem_singleton.mp hx).symm
  | tables c hc hl =>
    refine ⟨⟨kf, kl, kb⟩, ⟨by rw [withCfg_cfg, hc]; exact hcfg.1, fun a ha => ?_⟩, hstored, hcopy⟩
    rcases hl with hl | hl
    · exact hcfg.2 a (hl ▸ ha)
    · exact hl a ha
  | sectionTable i c hv hf =>
    refine ⟨⟨kf, kl, kb⟩, ⟨fun x hx => ?_, hcfg.2⟩, hstored, hcopy⟩
    have hx : x ∈ s.cfg.sections.toList.set i c := by simpa [writeSectionCfg] using hx
    rcases List.mem_or_eq_of_mem_set hx with hx | rfl
    · exact hcfg.1 x hx
    · exact ⟨hv, hf⟩
  | load t _ ht => exact ⟨⟨kf, kl, kb⟩, hload t ht, hstored, hcopy⟩
  | store x hx =>
    refine ⟨⟨kf, kl, kb⟩, hcfg, fun i hi => ?_, fun t ht => ?_⟩
    · rcases hx.stored i hi with h | h
      · exact hstored i h
      · exact hload _ h
    · rcases hx.copy t ht with h | rfl
      · exact hcopy t h
      · exact hcfg
  | written x _ hx =>
    refine ⟨⟨kf, kl, kb⟩, hcfg, fun i hi => ?_, fun t ht => ?_⟩
    · exact hwrite i (hi ▸ hx.stored)
    · exact nomatch hx.copy.symm.trans ht
  | powerOn pin _ =>
    exact ⟨⟨fun a ha => (nomatch ha), fun r hr => (nomatch hr), fun a ha => (nomatch ha)⟩, rolesInRange_default, hstored,
      fun t ht => (nomatch ht)⟩
  | _ => exact hs

/-- What a read of the medium returns is in range where what is held, and an altered image, are. -/
theorem rolesInRange_readBack {held : Option StoredImage} {read : ReadBack} {i : StoredImage}
    (hh : ∀ i, held = some i → RolesInRange i.tables) (ha : ∀ image, read = .altered image → RolesInRange image.tables)
    (h : readBack held read = some i) : RolesInRange i.tables := by
  cases read with
  | asHeld => exact hh i h
  | absent => cases h
  | altered image =>
    unfold readBack at h
    dsimp only at h
    split at h
    · exact hh i h
    · cases h
      exact ha _ rfl

theorem keys_step {s t : State} (hk : KeysInRange s) (ht : TablesInRange s)
    (hi : ∀ image, (s.pending.head? = some (.startupReadEnd (.altered image))
      ∨ s.pending.head? = some (.storeWriteEnd (.altered image))) → RolesInRange image.tables)
    (h : step s = .next t) : KeysInRange t ∧ TablesInRange t := by
  have hs : InRange s := ⟨hk, ht⟩
  cases hp : s.pending with
  | nil =>
    exact (step_time hp h).keeps (Act.inRange (al := timePermits) (fun _ h => h.elim) fun _ h => h.elim)
      (fun _ _ hs => hs) (fun _ hs => hs) hs
  | cons c rest =>
    obtain ⟨-, hstored, hcopy⟩ := ht
    rw [hp] at hi
    refine exec_keeps (P := InRange) (step_command hp h) (Act.inRange ?_ ?_) (fun _ _ hs => hs) (fun _ hs => hs) hs
    · rintro t ⟨read, rfl, rfl | ⟨i, hr, rfl⟩⟩
      · exact rolesInRange_default
      · exact rolesInRange_readBack hstored (fun image he => hi image (.inl (by rw [he]; rfl))) hr
    · rintro i ⟨-, read, rfl, hr⟩
      refine rolesInRange_readBack (fun j hj => ?_) (fun image he => hi image (.inr (by rw [he]; rfl))) hr.symm
      obtain ⟨t, ht, rfl⟩ := Option.map_eq_some_iff.mp hj
      exact hcopy t ht

/-- Settles O58: each bound goes through the elementary updates. -/
theorem queuesAndBalancesBounded : Obligations.QueuesAndBalancesBounded :=
  ⟨fun _ _ => queues_step, fun _ _ => balances_step, fun _ _ => keys_step, fun _ => queue_lengths⟩

end Keys
end Sys2Proof.Machine
end

section
/-! PROOFS. The store, the receiver and plant time at every step, and the values at reset. -/

namespace Sys2Proof.Machine

/-! ## The store (R149, R152) -/

section Store
variable {al : Allow}

/-- Every update keeps the store sound. -/
theorem Act.storeSound {O O' : Set Nat} {s t : State} (h : Act al (O, s) (O', t)) (hs : StoreSound s) :
    StoreSound t := by
  cases h with
  | postFrost a _ => obtain ⟨x, hx⟩ := postFrost_eq a s; exact hx ▸ hs
  | postFlush r _ => obtain ⟨x, hx⟩ := postFlush_eq r s; exact hx ▸ hs
  | postPass r => obtain ⟨x, hx⟩ := postPass_eq r s; exact hx ▸ hs
  | postProbe t _ => obtain ⟨x, hx⟩ := postProbe_eq t s; exact hx ▸ hs
  | store x hx => exact ⟨hx.writing, hx.idle⟩
  | written x _ hx => exact ⟨fun h => (nomatch hx.idle.symm.trans h), fun _ => hx.image⟩
  | powerOn pin _ => exact ⟨nofun, nofun⟩
  | _ => exact hs

theorem storeSound_step {s t : State} (hs : StoreSound s) (h : step s = .next t) : StoreSound t :=
  step_keeps h (fun _ hs => hs) (fun a hs => a.storeSound hs) (fun _ _ hs => hs) (fun _ hs => hs) hs

/-- No update but the end of writing makes a valid image (R152). -/
theorem Act.holdsValid {O O' : Set Nat} {s t : State} (h : Act al (O, s) (O', t))
    (ht : Machine.holdsValid t.store.stored = true) :
    Machine.holdsValid s.store.stored = true ∨ ∃ o, al.written o := by
  cases h with
  | postFrost a _ => obtain ⟨x, hx⟩ := postFrost_eq a s; rw [hx] at ht; exact .inl ht
  | postFlush r _ => obtain ⟨x, hx⟩ := postFlush_eq r s; rw [hx] at ht; exact .inl ht
  | postPass r => obtain ⟨x, hx⟩ := postPass_eq r s; rw [hx] at ht; exact .inl ht
  | postProbe t _ => obtain ⟨x, hx⟩ := postProbe_eq t s; rw [hx] at ht; exact .inl ht
  | store x hx => exact .inl (hx.valid ht)
  | written x _ hx => exact .inr ⟨_, hx.stored⟩
  | _ => exact .inl ht

/-- R152, R153, R157: a valid image comes of the end of a SAVE alone. -/
theorem holdsValid_of_exec {c : Instr} {s t : State} (h : exec c s = .next t)
    (ht : holdsValid t.store.stored = true) :
    holdsValid s.store.stored = true ∨ (s.store.state = .writing ∧ ∃ read, c = .storeWriteEnd read) := by
  refine exec_keeps (P := fun u => holdsValid u.store.stored = true →
    holdsValid s.store.stored = true ∨ (s.store.state = .writing ∧ ∃ read, c = .storeWriteEnd read)) h
    (fun a hs hu => ?_) (fun _ _ hs => hs) (fun _ hs => hs) .inl ht
  rcases a.holdsValid hu with hv | ⟨o, hw, read, hc, -⟩
  · exact hs hv
  · exact .inr ⟨hw, read, hc⟩

end Store

/-! ## The receiver (R160) -/

section Receiver
variable {al : Allow}

theorem Receiver.sound_hunting {r : Receiver} (hs : r.state = .hunt) (hh : r.held = []) : r.sound := by
  unfold Receiver.sound
  rw [hs]
  exact hh

/-- Soundness is about the state and the octets held. -/
theorem Receiver.sound_congr {r r' : Receiver} (h : r.sound) (hs : r'.state = r.state) (hh : r'.held = r.held) :
    r'.sound := by
  unfold Receiver.sound at *
  rw [hs, hh]
  exact h

/-- Every update keeps the receiver. -/
theorem Act.receiverSound {O O' : Set Nat} {s t : State} (h : Act al (O, s) (O', t)) (hs : ReceiverSound s) :
    ReceiverSound t := by
  cases h with
  | postFrost a _ => obtain ⟨x, hx⟩ := postFrost_eq a s; exact hx ▸ hs
  | postFlush r _ => obtain ⟨x, hx⟩ := postFlush_eq r s; exact hx ▸ hs
  | postPass r => obtain ⟨x, hx⟩ := postPass_eq r s; exact hx ▸ hs
  | postProbe t _ => obtain ⟨x, hx⟩ := postProbe_eq t s; exact hx ▸ hs
  | link u hu =>
    unfold ReceiverSound
    rcases hu.rx with h | h
    · rw [withLu_lu, h]
      exact hs
    · rw [withLu_lu, h]
      exact Receiver.sound_hunting rfl rfl
  | powerOn pin _ => exact Receiver.sound_hunting rfl rfl
  | _ => exact hs

theorem lenOk_iff {b : Byte} : lenOk b = true ↔ 2 ≤ b.toNat ∧ b.toNat ≤ 240 := by simp [lenOk]

/-- R160: a sound receiver that takes an octet and goes on is sound. -/
theorem takeOctet_sound {r r' : Receiver} {b : Byte} (h : takeOctet r b = .goOn r') (hr : r.sound) : r'.sound := by
  unfold Receiver.sound at hr
  unfold takeOctet at h
  split at h
  · cases h
    split
    · next hb => subst hb; exact .inl rfl
    · rfl
  · next hh =>
    rw [hh] at hr
    split at h
    · next hlen =>
      have held : r.held = [0xD3] := by
        rcases hr with hr | hr
        · exact hr
        · rw [hr] at hlen
          simp at hlen
      rw [held] at h
      split at h
      · next hb => cases h; subst hb; exact .inr rfl
      split at h
      · next hb => cases h; subst hb; exact .inl rfl
      · cases h; rfl
    · next hlen =>
      have held : r.held = [0xD3, 0x4B] := by
        rcases hr with hr | hr
        · rw [hr] at hlen
          simp at hlen
        · exact hr
      split at h
      · next hb =>
        cases h
        obtain ⟨h1, h2⟩ := lenOk_iff.mp hb
        rw [held]
        exact ⟨b, [], rfl, h1, h2, by simp⟩
      · cases h
  · next hh =>
    rw [hh] at hr
    obtain ⟨len, rest, hheld, h1, h2, -⟩ := hr
    rw [hheld] at h
    simp only [takeBody, List.cons_append] at h
    split at h
    · unfold judgeFrame at h
      dsimp only at h
      split at h
      · split at h <;> cases h
      · cases h
    · next hlen =>
      cases h
      exact ⟨len, rest ++ [b], rfl, h1, h2, by omega⟩

theorem rxGoes_sound {r r' : Receiver} (h : RxGoes r r') (hr : r.sound) : r'.sound := by
  rcases h with ⟨b, h⟩ | ⟨n, rfl⟩
  · exact takeOctet_sound h hr
  · exact Receiver.sound_congr hr rfl rfl

theorem receiverSound_step {s t : State} (hs : ReceiverSound s) (h : step s = .next t) : ReceiverSound t :=
  step_keeps h (fun _ hs => hs) (fun a hs => a.receiverSound hs) (fun _ _ hs => hs)
    (fun h hs => rxGoes_sound h hs) hs

end Receiver

/-! ## Plant time (R155) -/

section PlantTime
variable {al : Allow}

/-- Plant time stands, with a STARTING part STARTING still, or a power-on has been taken. -/
def TimeStands (s t : State) : Prop :=
  (t.plantTime = s.plantTime ∧ (s.Starting → t.Starting)) ∨ (t.Starting ∧ t.plantTime = 0)

theorem TimeStands.congr {s t u : State} (h : TimeStands s t) (hp : u.plantTime = t.plantTime)
    (hs : t.Starting → u.Starting) : TimeStands s u := by
  rcases h with ⟨h1, h2⟩ | ⟨h1, h2⟩
  · exact .inl ⟨hp.trans h1, hs ∘ h2⟩
  · exact .inr ⟨hs h1, hp.trans h2⟩

/-- No update but a tick moves plant time, and a power-on sets it to 0. -/
theorem Act.timeStands (ht : ¬ al.tick) (hl : ∀ t, ¬ al.load t) {O O' : Set Nat} {r s t : State}
    (h : Act al (O, s) (O', t)) (hs : TimeStands r s) : TimeStands r t := by
  cases h with
  | postFrost a _ => obtain ⟨x, hx⟩ := postFrost_eq a s; exact hx ▸ hs.congr rfl id
  | postFlush r _ => obtain ⟨x, hx⟩ := postFlush_eq r s; exact hx ▸ hs.congr rfl id
  | postPass r => obtain ⟨x, hx⟩ := postPass_eq r s; exact hx ▸ hs.congr rfl id
  | postProbe t _ => obtain ⟨x, hx⟩ := postProbe_eq t s; exact hx ▸ hs.congr rfl id
  | store x hx =>
    refine hs.congr rfl fun h => ?_
    rcases hx.reading h with h | ⟨t, h⟩
    · exact h
    · exact absurd h (hl t)
  | written x hw _ => exact hs.congr rfl fun h => nomatch hw.symm.trans h
  | load t _ h => exact absurd h (hl t)
  | tick h => exact absurd h ht
  | powerOn pin _ => exact .inr ⟨rfl, rfl⟩
  | _ => exact hs.congr rfl id

/-- R155: an update that is neither a tick nor a power-on leaves plant time. -/
theorem Act.plantTime (ht : ¬ al.tick) (hr : ¬ al.reset) {O O' : Set Nat} {s t : State}
    (h : Act al (O, s) (O', t)) : t.plantTime = s.plantTime := by
  cases h with
  | postFrost a _ => obtain ⟨x, hx⟩ := postFrost_eq a s; rw [hx]; rfl
  | postFlush r _ => obtain ⟨x, hx⟩ := postFlush_eq r s; rw [hx]; rfl
  | postPass r => obtain ⟨x, hx⟩ := postPass_eq r s; rw [hx]; rfl
  | postProbe t _ => obtain ⟨x, hx⟩ := postProbe_eq t s; rw [hx]; rfl
  | tick h => exact absurd h ht
  | powerOn _ h => exact absurd h hr
  | _ => rfl

theorem plantTime_of_exec {c : Instr} {s t : State} (hc : c ≠ .plantTimeTick) (h : exec c s = .next t) :
    t.plantTime = s.plantTime ∨ (t.Starting ∧ t.plantTime = 0) := by
  rcases exec_permitted h with ⟨other, hm⟩ | ⟨⟨read, rfl⟩, hr⟩
  · have stands : TimeStands s t := hm.keeps (P := TimeStands s)
      (Act.timeStands (al := permitted c s) hc fun t ⟨read, hr, _⟩ => other read hr)
      (fun _ _ hs => hs.congr rfl id) (fun _ hs => hs.congr rfl id) (.inl ⟨rfl, id⟩)
    exact stands.imp_left And.left
  · exact .inl (reach_keeps (P := fun u => u.plantTime = s.plantTime)
      (fun a hs => (a.plantTime hc id).trans hs) (hr ∅) rfl)

theorem finish_powerOn (pin : Bool) (s : State) : finish (powerOn pin s) = powerOn pin s :=
  finish_of_atRest ⟨⟨rfl, rfl⟩, fun _ => ⟨rfl, fun h => nomatch h⟩⟩

/-- R155: a tick, on a part between commands. -/
theorem exec_tick {s : State} (h : AtRest s) : exec .plantTimeTick s = .next (tickPlantTime s) :=
  congrArg _ (finish_of_atRest (s := tickPlantTime s) h)

/-- Settles O55: a tick counts, a power-on sets to 0, and no other update moves plant time. -/
theorem plantTimeMoves : Obligations.PlantTimeMoves := by
  refine ⟨fun pin s t h => ?_, fun s hs => ?_, fun c s t => plantTime_of_exec⟩
  · cases h
    rw [finish_powerOn]
    rfl
  · rw [exec_tick hs]
    have count : s.plantTime + 1 = BitVec.ofNat 32 ((s.plantTime.toNat + 1) % 4294967296) := by
      apply BitVec.eq_of_toNat_eq
      simp
    unfold tickPlantTime
    rw [count]
    rfl

end PlantTime

/-! ## At reset -/

section Reset

/-- Settles O1: the step's own equation. -/
theorem stepRunsTheFrontCommand : Obligations.StepRunsTheFrontCommand := by
  intro c rest s h
  rw [step, h]
  rfl

theorem node_reset (a : Nat) : State.reset.node a = .powerOn := by
  simp only [State.node, State.reset, Vector.getElem?_replicate]
  split
  · rfl
  · split <;> rfl

theorem sec_reset (i : Nat) : State.reset.sec i = .powerOn := by
  simp only [State.sec, State.reset, Vector.getElem?_replicate]
  split <;> rfl

theorem demandOf_reset (a : Nat) : State.reset.demandOf a = none := by
  simp only [State.demandOf, State.reset, Vector.getElem?_replicate]
  split
  · rfl
  · split <;> rfl

/-- Settles O3: the power-on columns. -/
theorem resetValues : Obligations.ResetValues := by
  refine ⟨node_reset, demandOf_reset, sec_reset, rfl, fun l => ?_, rfl, rfl, rfl, rfl, rfl, rfl, rfl, rfl, rfl, rfl, rfl⟩
  cases l <;> rfl

/-- Settles O4: a part that has just been reset has nothing left to do. -/
theorem powerOnReset : Obligations.PowerOnReset := fun pin s =>
  congrArg Host.Outcome.next (finish_powerOn pin s)

/-- Settles O60: the reset values meet what every step keeps. -/
theorem invariantsAtReset : Obligations.InvariantsAtReset := by
  refine ⟨fun i _ => ?_, ⟨fun i _ => ?_, le_rfl⟩, fun _ => fieldQuiet_powerOn false State.reset, ?_, fun i _ => ?_, ?_, ?_,
    ?_, ?_, ?_⟩
  · unfold SectionDerived
    rw [sec_reset]
    exact ⟨rfl, rfl⟩
  · rw [sec_reset]
    decide
  · exact ⟨.nil, .nil, .nil, Nat.zero_le _, Nat.zero_le _, Nat.zero_le _⟩
  · rw [sec_reset]
    decide
  · exact ⟨fun _ => ⟨rfl, rfl, rfl, rfl, rfl, rfl⟩, nofun, fun h => absurd rfl h, Nat.zero_le _⟩
  · exact ⟨fun a ha => (nomatch ha), fun r hr => (nomatch hr), fun a ha => (nomatch ha)⟩
  · exact ⟨rolesInRange_default, fun i hi => (nomatch hi), fun t ht => (nomatch ht)⟩
  · exact ⟨nofun, nofun⟩
  · exact Receiver.sound_hunting rfl rfl

end Reset
end Sys2Proof.Machine
end

section
/-! PROOFS. The walk (R98, R101, R106): what an operation does to the sequencer, and to a HALTED one. -/

namespace Sys2Proof.Machine

/-! ## The sequencer stands -/

section Still

/-- What leaves the sequencer where it stands, and a STARTING part STARTING. -/
def stillness : Allow where
  walk := False
  window := True
  load _ := False
  written _ := True
  tick := True
  reset := False

/-- Updates that leave the sequencer where it stands. -/
abbrev Still (s t : State) : Prop := Acts stillness s t

theorem Act.seq_eq {al : Allow} (hw : ¬ al.walk) (hr : ¬ al.reset) {O O' : Set Nat} {s t : State}
    (h : Act al (O, s) (O', t)) : t.seq = s.seq := by
  cases h with
  | postFrost a _ => obtain ⟨x, hx⟩ := postFrost_eq a s; rw [hx]; rfl
  | postFlush r _ => obtain ⟨x, hx⟩ := postFlush_eq r s; rw [hx]; rfl
  | postPass r => obtain ⟨x, hx⟩ := postPass_eq r s; rw [hx]; rfl
  | postProbe t _ => obtain ⟨x, hx⟩ := postProbe_eq t s; rw [hx]; rfl
  | seq _ h => exact absurd h hw
  | powerOn _ h => exact absurd h hr
  | _ => rfl

theorem Acts.seq_eq {s t : State} (h : Still s t) : t.seq = s.seq :=
  reach_keeps (P := fun u => u.seq = s.seq) (fun a hu => (a.seq_eq id id).trans hu) (h.reach ∅) rfl

/-- A STARTING part leaves STARTING at the end of its start-up read alone. -/
theorem Act.starting {al : Allow} (hl : ∀ t, ¬ al.load t) {O O' : Set Nat} {s t : State}
    (h : Act al (O, s) (O', t)) (hs : s.Starting) : t.Starting := by
  cases h with
  | postFrost a _ => obtain ⟨x, hx⟩ := postFrost_eq a s; exact hx ▸ hs
  | postFlush r _ => obtain ⟨x, hx⟩ := postFlush_eq r s; exact hx ▸ hs
  | postPass r => obtain ⟨x, hx⟩ := postPass_eq r s; exact hx ▸ hs
  | postProbe t _ => obtain ⟨x, hx⟩ := postProbe_eq t s; exact hx ▸ hs
  | store x hx =>
    rcases hx.reading hs with h | ⟨t, h⟩
    · exact h
    · exact absurd h (hl t)
  | written x hw _ => exact nomatch hw.symm.trans hs
  | load t _ h => exact absurd h (hl t)
  | powerOn pin _ => rfl
  | _ => exact hs

theorem Acts.starting {s t : State} (h : Still s t) (hs : s.Starting) : t.Starting :=
  reach_keeps (P := State.Starting) (Act.starting fun _ => id) (h.reach ∅) hs

end Still

/-! ## What a walk keeps -/

/-- A predicate that every operation keeps but a START: it implies that the walk is at rest where it rests, it is about
the sequencer and the start-up alone, and a walk that does not rest may go anywhere. -/
structure WalkKept (P : State → Prop) : Prop where
  rests : ∀ {s}, P s → WalkRests s
  still : ∀ {s t}, Still s t → P s → P t
  moves : ∀ {s} (q : Sequencer), P s → ¬ s.seq.state.resting → WalkRests (s.withSeq q) → P (s.withSeq q)
  link  : ∀ {s} (u : LinkUnit), P s → P (s.withLu u)
  reset : ∀ {s} (pin : Bool), P s → P (powerOn pin s)

section Walk
variable {P : State → Prop} {s : State}

theorem not_resting_running {s : State} (h : s.seq.state = .running) : ¬ s.seq.state.resting := by
  rw [h]
  rintro (h | h) <;> cases h

theorem not_resting_stopping {s : State} (h : s.seq.state = .stopping) : ¬ s.seq.state.resting := by
  rw [h]
  rintro (h | h) <;> cases h

/-- A walk with nothing pending that stands at a slot is well formed in RUNNING. -/
theorem walkRests_running {s : State} (h : s.seq.state = .running) (hc : s.seq.chain ≤ 63)
    (hr : s.seq.resume ≠ none → s.seq.activity = .none) : WalkRests s :=
  ⟨fun k => absurd k (not_resting_running h), fun k => (nomatch h.symm.trans k), fun k => ⟨h, hr k⟩, hc⟩

theorem walkRests_rest (s : State) {st : SeqState} (h : st.resting) (q : Sequencer) :
    WalkRests (s.withSeq { q with state := st, activity := .none, ret := none, timer := .idle, timerLeft := 0,
                                  wait := 0, chain := 0, resume := none }) := by
  refine ⟨fun _ => ⟨rfl, rfl, rfl, rfl, rfl, rfl⟩, fun k => ?_, fun k => absurd rfl k, Nat.zero_le _⟩
  have k : st = .stopping := k
  subst k
  rcases h with h | h <;> cases h

/-- A walk that waits for a MARK or in a GAP is RUNNING. -/
theorem WalkRests.waiting {s : State} (h : WalkRests s) (ha : s.seq.activity = .markWait ∨ s.seq.activity = .gapWait) :
    s.seq.state = .running := by
  obtain ⟨h1, h2, -⟩ := h
  cases hq : s.seq.state with
  | running => rfl
  | idle => rw [(h1 (.inl hq)).1] at ha; rcases ha with ha | ha <;> cases ha
  | halted => rw [(h1 (.inr hq)).1] at ha; rcases ha with ha | ha <;> cases ha
  | stopping =>
    rcases h2 hq with h | h <;> rw [h] at ha <;> rcases ha with ha | ha <;> cases ha

variable (hP : WalkKept P)
include hP

theorem enterIdle_kept (h : P s) (hn : ¬ s.seq.state.resting) : P (enterIdle s) :=
  hP.moves _ h hn (walkRests_rest s (.inl rfl) s.seq)

theorem goTo_kept (i : Nat) (h : P s) (hr : s.seq.state = .running) : P (goTo i s) :=
  hP.moves _ h (not_resting_running hr) (walkRests_running hr (hP.rests h).2.2.2 fun _ => rfl)

theorem goOn_kept (h : P s) (hr : s.seq.state = .running) : P (goOn s) := goTo_kept hP _ h hr

theorem halt_kept (c : HaltCause) (h : P s) (hr : s.seq.state = .running) : P (halt c s) := by
  have halted := walkRests_rest s (.inr rfl : SeqState.halted.resting)
    { s.seq with haltCause := c, haltSlot := s.seq.current }
  unfold halt
  exact hP.still (acts_raise ..) (hP.moves _ h (not_resting_running hr) halted)

theorem closeWindow_kept (h : P s) : P (closeWindow s) := by
  have cleared : P (clearWindow s) := hP.still (acts_clearWindow (.inr trivial) s) h
  unfold closeWindow
  dsimp only
  split
  · next hr => exact goOn_kept hP cleared hr
  · next hr => exact enterIdle_kept hP cleared (not_resting_stopping hr)
  · exact cleared
  · exact cleared

/-! ### Exchanges -/

theorem slotTakesResult_kept (r : ExchangeResult) (h : P s) : P (slotTakesResult r s) := by
  unfold slotTakesResult
  split
  · next hr =>
    dsimp only
    split
    · exact goTo_kept hP _ h hr
    · exact goOn_kept hP h hr
  · next hr => exact enterIdle_kept hP h (not_resting_stopping hr)
  · exact h
  · exact h

theorem requestDone_kept (h : P s) : P (requestDone s) := by
  unfold requestDone
  dsimp only
  split
  · exact closeWindow_kept hP (hP.still (acts_window s (.inr trivial) _ s.arb.due) h)
  · exact hP.still (acts_window s (.inr trivial) _ _) h

theorem handResult_kept (q : ExchangeRequest) (r : ExchangeResult) (h : P s) : P (handResult q r s) := by
  unfold handResult
  split
  · exact slotTakesResult_kept hP r h
  · exact requestDone_kept hP (hP.still (acts_handOn q r s) h)

theorem endExchange_kept (q : ExchangeRequest) (v : Option Nat) (c : Bool) (e : Ending) (h : P s) :
    P (endExchange q v c e s) := by
  unfold endExchange
  dsimp only
  refine handResult_kept hP q _ (hP.still ((Acts.trans ?_ (acts_withXe _ _))) h)
  exact ((acts_withXe s _).trans (acts_healthStage _ _)).trans (acts_nodeStage _ _ _)

theorem makeAttempt_kept (f : Flight) (n : Nat) (h : P s) : P (makeAttempt f n s) := by
  unfold makeAttempt
  split
  · exact hP.still (acts_beginAttempt ..) h
  · exact endExchange_kept hP _ _ _ _ h

theorem beginExchange_kept (q : ExchangeRequest) (h : P s) : P (beginExchange q s) := by
  unfold beginExchange
  split
  · exact endExchange_kept hP _ _ _ _ h
  · dsimp only
    refine makeAttempt_kept hP _ _ ?_
    split
    · exact hP.still (acts_countClamp _ s) h
    · exact h

theorem retryOrEnd_kept (f : Flight) (o : Outcome) (p : Option Reply) (h : P s) : P (retryOrEnd f o p s) := by
  unfold retryOrEnd
  split
  · exact makeAttempt_kept hP _ _ h
  · exact endExchange_kept hP _ _ _ _ h

theorem failAttempt_kept (f : Flight) (e : TransferError) (h : P s) : P (failAttempt f e s) :=
  retryOrEnd_kept hP _ _ _ (hP.still ((acts_startIdleTime s).trans (acts_attemptFailed ..)) h)

theorem succeedAttempt_kept (f : Flight) (p : Reply) (h : P s) : P (succeedAttempt f p s) := by
  have taken := hP.still ((acts_startIdleTime s).trans (acts_attemptSucceeded f.lane f.request.node _)) h
  unfold succeedAttempt
  dsimp only
  split
  · exact retryOrEnd_kept hP _ _ _ taken
  · exact endExchange_kept hP _ _ _ _ taken

theorem takeReplyOctet_kept (f : Flight) (b : Byte) (h : P s) : P (takeReplyOctet f b s) := by
  unfold takeReplyOctet judgeAttempt
  dsimp only
  split
  · split
    · exact failAttempt_kept hP _ _ h
    · exact succeedAttempt_kept hP _ _ h
  · exact hP.still (acts_withXe s _) h

theorem failIn_kept (p : Phase) (e : TransferError) (h : P s) : P (failIn p e s) := by
  unfold failIn
  split
  · split
    · exact failAttempt_kept hP _ e h
    · exact h
  · exact h

theorem hearOctet_kept (l : Lane) (b : Byte) (bad : Bool) (h : P s) : P (hearOctet l b bad s) := by
  unfold hearOctet
  split
  · split
    · split
      · exact failAttempt_kept hP _ _ h
      · exact takeReplyOctet_kept hP _ b h
    · exact h
  · exact h

/-! ### Grants -/

theorem requestExchange_kept (q : ExchangeRequest) (h : P s) : P (requestExchange q s) :=
  beginExchange_kept hP q (hP.still (acts_window s (.inr trivial) _ s.arb.due) h)

theorem grantFlush_kept (r : FlushRequest) (h : P s) : P (grantFlush r s) := by
  unfold grantFlush
  split
  · exact requestExchange_kept hP _ h
  · exact hP.still ((acts_flushGrantSkipped r s).trans (acts_window _ (.inr trivial) _ true)) h

theorem grant_kept (c : Candidate) (h : P s) : P (grant c s) := by
  have moved : P (s.withArb (movePointers c s.arb)) := hP.still (acts_withArb (movePointers_kept c s.arb)) h
  unfold grant
  extract_lets t
  split
  · split
    · next a rest hq =>
      have tail : QueuesKept stillness t.arb { t.arb with frost := rest } :=
        ⟨by simp [hq], .refl _, le_rfl, .refl _, .inr ⟨rfl, rfl⟩⟩
      exact requestExchange_kept hP _ (hP.still (acts_withArb tail) moved)
    · exact moved
  · split
    · next r rest hq =>
      have tail : QueuesKept stillness t.arb { t.arb with flush := rest } :=
        ⟨.refl _, by simp [hq], le_rfl, .refl _, .inr ⟨rfl, rfl⟩⟩
      exact grantFlush_kept hP _ (hP.still (acts_withArb tail) moved)
    · exact moved
  · split
    · next r rest hq =>
      have tail : QueuesKept stillness t.arb { t.arb with pass := rest } :=
        ⟨.refl _, .refl _, by simp [hq], .refl _, .inr ⟨rfl, rfl⟩⟩
      exact requestExchange_kept hP _ (hP.still (acts_withArb tail) moved)
    · exact moved
  · split
    · next p rest hq =>
      have tail : QueuesKept stillness t.arb { t.arb with probe := rest } :=
        ⟨.refl _, .refl _, le_rfl, by simp [hq], .inr ⟨rfl, rfl⟩⟩
      exact requestExchange_kept hP _ (hP.still (acts_withArb tail) moved)
    · exact moved
  · exact moved

theorem decision_kept (h : P s) : P (decision s) := by
  unfold decision
  split
  · split
    · exact grant_kept hP _ h
    · exact closeWindow_kept hP h
  · split
    · exact closeWindow_kept hP h
    · split
      · exact closeWindow_kept hP h
      · exact h

theorem makeDecision_kept (h : P s) : P (makeDecision s) := by
  have taken : P (s.withArb { s.arb with due := false }) := hP.still (acts_window s (.inr trivial) s.arb.window false) h
  unfold makeDecision
  dsimp only
  split
  · exact decision_kept hP taken
  · exact taken

/-! ### Slots -/

/-- A walk between slots, or at one, takes a new record in RUNNING. -/
theorem running_kept {q : Sequencer} (h : P s) (hr : s.seq.state = .running) (hq : q.state = .running)
    (hc : q.chain ≤ 63) (ha : q.resume ≠ none → q.activity = .none) : P (s.withSeq q) :=
  hP.moves q h (not_resting_running hr) (walkRests_running hq hc ha)

theorem passMark_kept (late : Bool) (h : P s) (hr : s.seq.state = .running)
    (ha : s.seq.resume ≠ none → s.seq.activity = .none) : P (passMark late s) := by
  have hc := (hP.rests h).2.2.2
  unfold passMark
  dsimp only
  have announced {u : State} (hu : P u) (hur : u.seq.state = .running) : P (goOn (announceMark u)) := by
    have still : Still u (announceMark u) := acts_announceMark u
    exact goOn_kept hP (hP.still still hu) (by rw [still.seq_eq]; exact hur)
  split
  · unfold countOverrun
    have still {v : State} (x : Subject) : Still v (raise .overrun x 0 v) := acts_raise ..
    refine announced (hP.still (still _) ?_) (by rw [(still _).seq_eq]; exact hr)
    exact running_kept hP (running_kept hP h hr hr hc ha) hr hr hc ha
  · exact announced (running_kept hP h hr hr hc ha) hr

theorem reachMark_kept (h : P s) (hr : s.seq.state = .running) (hn : s.seq.resume = none) : P (reachMark s) := by
  have ha : s.seq.resume ≠ none → s.seq.activity = .none := fun k => absurd hn k
  unfold reachMark
  split
  · exact passMark_kept hP _ h hr ha
  · exact running_kept hP h hr hr (hP.rests h).2.2.2 fun k => absurd hn k
  · exact passMark_kept hP _ h hr ha
  · exact passMark_kept hP _ h hr ha

omit hP in
/-- R107: the lapse of the timer leaves the rest of the sequencer. -/
theorem lapse_eq (q : Sequencer) : ∃ t, lapse q = { q with timer := t } := by
  unfold lapse
  split
  · exact ⟨_, rfl⟩
  · exact ⟨q.timer, rfl⟩

theorem actSlot_kept (x : Slot) (h : P s) (hr : s.seq.state = .running) (hn : s.seq.resume = none) :
    P (actSlot x s) := by
  have hc := (hP.rests h).2.2.2
  obtain ⟨t, ht⟩ := lapse_eq s.seq
  have exchange : P (reachExchange x s) := by
    unfold reachExchange
    rw [ht]
    exact beginExchange_kept hP _ (running_kept hP h hr hr hc fun k => absurd hn k)
  unfold actSlot
  split
  · exact reachMark_kept hP h hr hn
  · exact exchange
  · exact exchange
  · exact exchange
  · unfold reachGap
    rw [ht]
    exact running_kept hP h hr hr hc fun k => absurd hn k
  · unfold reachWindow
    dsimp only
    rw [ht]
    exact hP.still (acts_window _ (.inr trivial) _ true) (running_kept hP h hr hr hc fun k => absurd hn k)
  · exact goTo_kept hP _ h hr
  · unfold reachCall
    exact goTo_kept hP _ (running_kept hP h hr hr hc fun k => absurd hn k) hr
  · unfold reachReturn
    split
    · exact goTo_kept hP _ (running_kept hP h hr hr hc fun k => absurd hn k) hr
    · exact h
  · have still : Still s (raise .note (.note x.note) 0 s) := acts_raise ..
    exact goOn_kept hP (hP.still still h) (by rw [still.seq_eq]; exact hr)
  · exact enterIdle_kept hP h (not_resting_running hr)

omit hP in
/-- R104, R106: a slot that passes the checks leaves the chain counter at 63 or less. -/
theorem chainAfter_le {u : State} {x : Slot} (h : haltCheck u x = none) (hc : u.seq.chain ≤ 63) :
    chainAfter x.kind u.seq.chain ≤ 63 := by
  unfold haltCheck at h
  split at h
  · cases h
  · next hn =>
    unfold chainAfter
    split
    · omega
    split
    · next hu =>
      have : u.seq.chain ≠ 63 := fun k => hn ⟨hu, k⟩
      omega
    · exact hc

theorem reachSlot_kept (i : Nat) (h : P s) (hm : s.seq.resume = some i) : P (reachSlot i s) := by
  obtain ⟨hr, -⟩ := (hP.rests h).2.2.1 (by rw [hm]; nofun)
  have hc := (hP.rests h).2.2.2
  have reached : P (s.withSeq { s.seq with current := i, resume := none }) :=
    running_kept hP h hr hr hc fun k => absurd rfl k
  unfold reachSlot
  dsimp only
  split
  · exact halt_kept hP _ reached hr
  · next hk => exact actSlot_kept hP _ (running_kept hP reached hr hr (chainAfter_le hk hc) fun k => absurd rfl k) hr rfl

theorem settleFor_kept (n : Nat) (h : P s) : P (settleFor n s) := by
  induction n generalizing s with
  | zero => exact h
  | succ n ih =>
    unfold settleFor
    split
    · next t ht =>
      refine ih ?_
      unfold settleOnce at ht
      split at ht
      · cases ht
        exact makeDecision_kept hP h
      · split at ht
        · next i hi =>
          cases ht
          exact reachSlot_kept hP i h hi
        · cases ht
    · exact h

theorem finish_kept (h : P s) : P (finish s) := hP.still (acts_txStart _) (settleFor_kept hP _ h)

/-! ### Timers -/

theorem waitOver_kept (h : P s) : P (waitOver s) := by
  unfold waitOver
  split
  · next ha =>
    have hr := (hP.rests h).waiting (.inr ha)
    have hm : s.seq.resume ≠ none → s.seq.activity = .none := fun k => ((hP.rests h).2.2.1 k).2
    exact goOn_kept hP (running_kept hP h hr hr (hP.rests h).2.2.2 hm) hr
  · exact h

theorem cycleTimerZero_kept (h : P s) : P (cycleTimerZero s) := by
  obtain ⟨h1, h2, h3, h4⟩ := hP.rests h
  unfold cycleTimerZero
  split
  · next ht =>
    have hn : ¬ s.seq.state.resting := fun k => by
      obtain ⟨-, -, hti, -⟩ := h1 k
      rw [hti] at ht
      cases ht
    have zero (t : CycleTimer) : P (timerAtZero t s) := hP.moves _ h hn ⟨fun k => absurd k hn, h2, h3, h4⟩
    split
    · next ha => exact passMark_kept hP _ h ((hP.rests h).waiting (.inl ha)) fun k => (h3 k).2
    split
    · exact closeWindow_kept hP (zero _)
    · exact zero _
  · exact h

theorem frameEnd_kept (h : P s) : P (frameEnd s) := by
  unfold frameEnd
  split
  · split
    · exact hP.reset _ h
    · exact hP.link _ h
  · exact h

/-! ### Requests -/

theorem stopRunning_kept (h : P s) (hr : s.seq.state = .running) : P (stopRunning s) := by
  obtain ⟨-, -, h3, h4⟩ := hP.rests h
  have hn := not_resting_running hr
  have stopping {u : State} (hu : P u) (hs : u.seq = s.seq) (ha : s.seq.activity = .exchange ∨ s.seq.activity = .window) :
      P (enterStopping u) := by
    refine hP.moves _ hu (by rw [hs]; exact hn) ⟨fun k => ?_, fun _ => by rw [withSeq_seq, hs]; exact ha, fun k => ?_, ?_⟩
    · rcases k with k | k <;> cases k
    · rw [withSeq_seq, hs] at k
      rw [(h3 k).2] at ha
      rcases ha with ha | ha <;> cases ha
    · rw [withSeq_seq, hs]
      exact h4
  unfold stopRunning
  split
  · next ha => exact stopping h rfl (.inl ha)
  · next ha =>
    split
    · exact enterIdle_kept hP (hP.still (acts_clearWindow (.inr trivial) s) h) hn
    · exact stopping (hP.still (acts_window s (.inr trivial) _ s.arb.due) h) rfl (.inr ha)
  · exact enterIdle_kept hP h hn
  · exact enterIdle_kept hP h hn
  · exact enterIdle_kept hP h hn

theorem stopWalk_kept (h : P s) : P (stopWalk s) := by
  unfold stopWalk
  split
  · next hr => exact stopRunning_kept hP h hr
  all_goals exact h

theorem resetWalk_kept (h : P s) : P (resetWalk s) := by
  unfold resetWalk
  split
  · next hr => exact running_kept hP h hr rfl (Nat.zero_le _) fun _ => rfl
  · next hr => exact enterIdle_kept hP h (not_resting_stopping hr)
  · exact h
  · exact h

theorem fieldReset_kept (h : P s) : P (fieldReset s) := by
  unfold fieldReset
  refine resetWalk_kept hP (hP.still (acts_forSections acts_endRunningPulse _) ?_)
  exact hP.still (acts_resetArbiter (.inr trivial) _) (hP.still (acts_abandonExchange s) h)

theorem serveResetLink_kept (h : P s) : P (serveResetLink s).1 := by
  unfold serveResetLink
  split
  · exact hP.reset _ h
  · exact hP.link _ h

theorem takeValid_kept {execute : State → Served} (hx : ∀ u, P u → P (execute u).1) (kind tag : Byte) (h : P s) :
    P (takeValid kind tag execute s) := by
  have taken : P (linkTaken s) := hP.still (acts_linkTaken s) h
  have executed := hx _ taken
  unfold takeValid
  dsimp only
  split
  · exact hP.link _ taken
  split
  · next u a hu =>
    rw [hu] at executed
    exact hP.link _ executed
  · next u hu =>
    rw [hu] at executed
    exact executed

theorem request_kept {body : State → Served} (hb : ∀ u, P u → P (body u).1) (kind tag : Byte) (idle : List Byte)
    (h : P s) : P (request kind tag idle body s) := by
  refine finish_kept hP (takeValid_kept hP (fun u hu => ?_) kind tag h)
  unfold whileServed
  split
  · exact hu
  · exact hb u hu

/-- A request that leaves the sequencer where it stands. -/
theorem stillRequest_kept {body : State → Served} (hb : Serves stillness body) (kind tag : Byte) (idle : List Byte)
    (h : P s) : P (request kind tag idle body s) := request_kept hP (fun u => hP.still (hb u)) kind tag idle h

end Walk
end Sys2Proof.Machine
end

section
/-! PROOFS. What a walk keeps at every command (R98, R101, R103, R106). -/

namespace Sys2Proof.Machine

section Commands
variable {P : State → Prop} {s t : State}

theorem serveResetField_kept (hP : WalkKept P) (h : P s) : P (serveResetField s).1 := by
  have reset := fieldReset_kept hP h
  unfold serveResetField accept
  generalize fieldReset s = u at reset ⊢
  exact reset

/-- What a walk keeps, every command keeps but a START, the octets that may bring one, and the end of the start-up
read. -/
theorem exec_kept (hP : WalkKept P) {c : Instr} (hstart : ∀ tag slot, c ≠ .start tag slot)
    (hread : ∀ read, c ≠ .startupReadEnd read) (hoctet : ∀ b e, c ≠ .receiverOctet b e) (hgap : c ≠ .gapTimerExpiry)
    (h : exec c s = .next t) (hs : P s) : P t := by
  have done {u : State} (hu : P u) : P (finish u) := finish_kept hP hu
  have still {u : State} (hu : Still s u) : P (finish u) := done (hP.still hu hs)
  have served {body : State → Served} (hb : Serves stillness body) (kind tag : Byte) (idle : List Byte) :
      P (request kind tag idle body s) := stillRequest_kept hP hb kind tag idle hs
  cases c <;> cases h
  case powerOnReset => exact done (hP.reset _ hs)
  case startupReadEnd => exact absurd rfl (hread _)
  case plantTimeTick => exact still (.of fun _ => .tick trivial)
  case receiverOctet => exact absurd rfl (hoctet _ _)
  case gapTimerExpiry => exact absurd rfl (hgap)
  case demand => exact served (serves_demand _) ..
  case tableWriteCycle => exact served (serves_write cycleRules_acting _ _ _) ..
  case tableWriteNode => exact served (serves_write nodeRules_acting _ _ _) ..
  case tableWriteSection => exact served (serves_write sectionRules_acting _ _ _) ..
  case tableWriteLoop => exact served (serves_write loopRules_acting _ _ _) ..
  case tableWriteDemand => exact served (serves_write demandRules_acting _ _ _) ..
  case tableWriteHold => exact served (serves_write holdRules_acting _ _ _) ..
  case tableWriteAlarmMap => exact served (serves_write alarmRules_acting _ _ _) ..
  case tableWriteLinkSet => exact served (serves_write linkSetRules_acting _ _ _) ..
  case tableRead => exact served (serves_read _ _ _) ..
  case pass => exact served (serves_pass _ _ _ _ _) ..
  case start => exact absurd rfl (hstart _ _)
  case stop => exact request_kept hP (fun u => stopWalk_kept hP) _ _ _ hs
  case reports => exact served (serves_reports _) ..
  case resume => exact served serves_resume ..
  case hold => exact served serves_hold ..
  case reviveNode => exact served (serves_reviveNode _) ..
  case reviveLane => exact served (serves_reviveLane _) ..
  case flush => exact served (serves_flush _) ..
  case ack => exact served (serves_ack _) ..
  case resetField => exact request_kept hP (fun u => serveResetField_kept hP) _ _ _ hs
  case resetLink => exact request_kept hP (fun u => serveResetLink_kept hP) _ _ _ hs
  case resetFull => exact served serves_resetFull ..
  case save => exact served serves_save ..
  case clear => exact served serves_clear ..
  case idleTimeEnd => exact still (acts_withXe s _)
  case commandFrameSent => exact still (acts_withXe s _)
  case responseTimerExpiry => exact done (failIn_kept hP _ _ hs)
  case replyOctet => exact done (hearOctet_kept hP _ _ _ hs)
  case replyGapExpiry => exact done (failIn_kept hP _ _ hs)
  case replyWindowExpiry => exact done (failIn_kept hP _ _ hs)
  case waitTimerExpiry => exact done (waitOver_kept hP hs)
  case laneProbeCountdownEnd => exact still (acts_laneCountdownOver _ s)
  case nodeProbeCountdownEnd => exact still (acts_nodeCountdownOver _ s)
  case minorCycleTimerZero => exact done (cycleTimerZero_kept hP hs)
  case intervalTimerExpiry => exact still (acts_intervalOver _ s)
  case flushTimerExpiry => exact still (acts_flushOver _ s)
  case storeWriteEnd read => exact still (acts_storeWritten read fun _ => trivial)
  case linkTimerExpiry => exact still (acts_linkOver s)
  case fillTimerExpiry => exact still (acts_fillExpiry s)
  case transmitFrameEnd => exact done (frameEnd_kept hP hs)

/-- A command frame that is no START keeps what a walk keeps. -/
theorem serveCommand_kept (hP : WalkKept P) {code : Byte} {param : List Byte}
    (hS : ∀ slot, code :: param = [1, slot] → ∀ u, P u → P (serveStart slot u).1) (hs : P s) :
    P (serveCommand code param s).1 := by
  have still {body : State → Served} (hb : Serves stillness body) : P (body s).1 := hP.still (hb s) hs
  have bare {body : State → Served} (hb : P (body s).1) : P (bare code body param s).1 := by
    cases param with
    | nil => exact hb
    | cons _ _ => exact hs
  unfold serveCommand
  split
  · next h =>
    have hc : code = 1 := BitVec.eq_of_toNat_eq h
    unfold oneOctet
    split
    · next p => exact hS p (by rw [hc]) s hs
    · exact hs
  · exact bare (stopWalk_kept hP hs)
  · exact still (serves_oneOctet serves_reports param)
  · exact still (serves_bare serves_resume param)
  · exact still (serves_bare serves_hold param)
  · exact still (serves_twoOctets serves_revive param)
  · exact still (serves_oneOctet serves_flush param)
  · exact still (serves_twoOctets (fun _ _ => serves_ack _) param)
  · unfold oneOctet
    split
    · unfold serveReset
      split
      · exact serveResetField_kept hP hs
      split
      · exact serveResetLink_kept hP hs
      split
      · exact hs
      · exact hs
    · exact hs
  · exact still (serves_bare serves_save param)
  · exact still (serves_bare serves_clear param)
  · exact hs

/-- A frame that is no START keeps what a walk keeps. -/
theorem serveFrame_kept (hP : WalkKept P) {kind tag : Byte} {payload : List Byte}
    (hS : ∀ slot, kind = kindCommand → payload = [1, slot] → ∀ u, P u → P (serveStart slot u).1) (hs : P s) :
    P (serveFrame kind tag payload s).1 := by
  have still {body : State → Served} (hb : Serves stillness body) : P (body s).1 := hP.still (hb s) hs
  unfold serveFrame
  split
  · exact still (serves_while (serves_demandFrame payload))
  split
  · exact still (serves_while (serves_writeFrame payload))
  split
  · exact still (serves_while (serves_readFrame payload))
  split
  · next hk =>
    unfold whileServed serveCommandFrame
    split
    · exact hs
    split
    · exact serveCommand_kept hP (fun slot h => hS slot hk h) hs
    · exact hs
  split
  · exact still (serves_while (serves_passFrame tag payload))
  · exact hs

theorem takeFrame_kept (hP : WalkKept P) {kind tag : Byte} {payload : List Byte}
    (hS : ∀ slot, kind = kindCommand → payload = [1, slot] → ∀ u, P u → P (serveStart slot u).1) (hs : P s) :
    P (takeFrame kind tag payload s) :=
  finish_kept hP (takeValid_kept hP (fun _ hu => serveFrame_kept hP hS hu) kind tag hs)

end Commands

/-! ## Walks at rest -/

section Rest
variable {s t : State}

theorem walkRests_kept : WalkKept WalkRests where
  rests := id
  still h hs := by unfold WalkRests; rw [h.seq_eq]; exact hs
  moves _ _ _ h := h
  link _ h := h
  reset _ _ := ⟨fun _ => ⟨rfl, rfl, rfl, rfl, rfl, rfl⟩, nofun, fun h => absurd rfl h, Nat.zero_le _⟩

/-- R100: a walk begun is RUNNING, between slots. -/
theorem walkRests_startAt (i : Nat) (s : State) : WalkRests (startAt i s) :=
  walkRests_running rfl (Nat.zero_le _) fun _ => rfl

theorem serveStart_rests (slot : Byte) {s : State} (h : WalkRests s) : WalkRests (serveStart slot s).1 := by
  unfold serveStart
  split
  · exact walkRests_startAt _ s
  · exact walkRests_startAt _ s
  · exact h
  · exact h

theorem feed_rests (closing : Bool) (fuel : Nat) (octets : List Byte) (h : WalkRests s) :
    WalkRests (feed closing fuel octets s) := by
  have frame (kind tag : Byte) (payload : List Byte) {u : State} (hu : WalkRests u) :
      WalkRests (takeFrame kind tag payload u) :=
    takeFrame_kept walkRests_kept (fun slot _ _ _ => serveStart_rests slot) hu
  induction fuel generalizing octets s with
  | zero => exact h
  | succ fuel ih =>
    cases octets with
    | nil =>
      unfold feed
      split
      · exact ih _ h
      · exact h
      · exact h
    | cons b rest =>
      unfold feed
      split
      · exact ih _ h
      · exact ih _ h
      · exact ih _ h
      · dsimp only
        split
        · exact frame _ _ _ h
        · exact ih _ (frame _ _ _ h)

theorem receiveBad_rests (h : WalkRests s) : WalkRests (receiveBad s) := by
  unfold receiveBad
  split
  · exact h
  · exact feed_rests _ _ _ h

theorem gapExpiry_rests (h : WalkRests s) : WalkRests (gapExpiry s) := by
  unfold gapExpiry
  split
  · exact h
  · exact feed_rests _ _ _ h

theorem startFromImage_rests (t : ConfigTables) (s : State) : WalkRests (startFromImage t s) := by
  obtain ⟨eu, x, he⟩ := startFromImage_frame t s
  rw [he]
  exact walkRests_kept.still (acts_withEu _ eu) (walkRests_startAt 0 _)

theorem startFromDefaults_rests (i : ImageState) (c : StoreCause) (h : WalkRests s) :
    WalkRests (startFromDefaults i c s) := by
  obtain ⟨eu, lu, he⟩ := startFromDefaults_frame i c s
  rw [he]
  exact h

theorem endStarting_rests (image : Option StoredImage) (h : WalkRests s) : WalkRests (endStarting image s) := by
  unfold endStarting
  dsimp only
  split
  · split
    · exact startFromImage_rests _ _
    · exact startFromDefaults_rests (s := s.withStore _) _ _ h
  · exact startFromDefaults_rests (s := s.withStore _) _ _ h

theorem startupRead_rests (read : ReadBack) (h : WalkRests s) : WalkRests (startupRead read s) := by
  unfold startupRead
  split
  · exact endStarting_rests _ h
  · exact h

theorem exec_rests {c : Instr} (h : WalkRests s) (he : exec c s = .next t) : WalkRests t := by
  by_cases h1 : ∃ tag slot, c = .start tag slot
  · obtain ⟨tag, slot, rfl⟩ := h1
    cases he
    exact request_kept walkRests_kept (fun u => serveStart_rests _) _ _ _ h
  by_cases h2 : ∃ read, c = .startupReadEnd read
  · obtain ⟨read, rfl⟩ := h2
    cases he
    exact finish_kept walkRests_kept (startupRead_rests read h)
  by_cases h3 : ∃ b e, c = .receiverOctet b e
  · obtain ⟨b, e, rfl⟩ := h3
    cases he
    cases e
    · exact feed_rests _ _ _ h
    · exact receiveBad_rests h
  by_cases h4 : c = .gapTimerExpiry
  · subst h4
    cases he
    exact gapExpiry_rests h
  exact exec_kept walkRests_kept (fun tag slot k => h1 ⟨tag, slot, k⟩) (fun read k => h2 ⟨read, k⟩)
    (fun b e k => h3 ⟨b, e, k⟩) h4 he h

theorem elapse_rests (h : WalkRests s) : WalkRests (elapse s) := by
  obtain ⟨h1, h2, h3, h4⟩ := h
  refine ⟨fun hr => ?_, h2, h3, h4⟩
  obtain ⟨ha, hret, ht, hl, hw, hc⟩ := h1 hr
  refine ⟨ha, hret, ht, ?_, ?_, hc⟩
  · show (if s.seq.timer = .counting then s.seq.timerLeft - 1 else s.seq.timerLeft) = 0
    rw [ht]
    exact hl
  · show s.seq.wait - 1 = 0
    rw [hw]

/-- Settles O59: every operation keeps the walk at rest where it rests, and time does. -/
theorem walkAtRest : Obligations.WalkAtRest := by
  intro s t hs h
  cases hp : s.pending with
  | nil =>
    rw [step, hp] at h
    cases h
    exact finish_kept walkRests_kept (elapse_rests hs)
  | cons c rest => exact exec_rests (s := s.withPending rest) hs (step_command hp h)

end Rest
end Sys2Proof.Machine
end

section
/-! PROOFS. The plant link (Chapter 8): requests as frames, the timers of the link and its transmitter, and the queueing of
reports. -/

namespace Sys2Proof.Machine

/-! ## Time (log 4) -/

section Time

/-- Settles O2: the passing of a µs leaves a part at rest at rest. -/
theorem emptyQueueLetsTimePass : Obligations.EmptyQueueLetsTimePass := by
  intro s hp h
  obtain ⟨hs, hn⟩ := h
  have rest : AtRest (elapse s) := ⟨hs, hn⟩
  have time : step s = .next (finish (elapse s)) := by rw [step, hp]
  rw [time, finish_of_atRest rest]
  rfl

end Time

/-! ## Every request is a frame (R162, TABLE 8-5) -/

section Requests
variable {s : State}

/-- The octets of a frame name its kind, its tag and its payload. -/
theorem linkFrame_inj {k k' t t' : Byte} {p p' : List Byte} (h : linkFrame k t p = linkFrame k' t' p') :
    k = k' ∧ t = t' ∧ p = p' := by
  unfold linkFrame at h
  dsimp only at h
  simp only [List.cons_append, List.nil_append, List.cons.injEq, true_and] at h
  obtain ⟨-, rfl, rfl, h⟩ := h
  have crc (n : BitVec 16) : (wordOctets n).length = 2 := rfl
  exact ⟨rfl, rfl, List.append_inj_left' h (by rw [crc, crc])⟩

/-- A request is taken whole as the frame that carries it, with the data of its kind while it is not served. -/
theorem exec_request {c : Instr} {octets : List Byte} (h : requestFrame c = some octets) :
    ∃ kind tag payload body, octets = linkFrame kind tag payload ∧
      ∀ s, exec c s = .next (request kind tag (unservedData kind payload) body s) := by
  cases c <;> cases h <;> exact ⟨_, _, _, _, rfl, fun s => rfl⟩

/-- Settles O12: a request is whatever its frame says, and a STARTING part serves none. -/
theorem startingAnswersNotNow : Obligations.StartingAnswersNotNow := by
  intro c kind tag payload s hf hs hup hroom hset
  obtain ⟨k, t, p, body, he, hx⟩ := exec_request hf
  obtain ⟨rfl, rfl, rfl⟩ := linkFrame_inj he
  rw [hx]
  exact congrArg _ (request_starting hs hup hroom hset)

/-- Settles O13: the frame is taken and discarded. -/
theorem fullResponseQueueDiscards : Obligations.FullResponseQueueDiscards := by
  intro c s hf hup hfull hset
  obtain ⟨octets, ho⟩ := Option.ne_none_iff_exists'.mp hf
  obtain ⟨k, t, p, body, -, hx⟩ := exec_request ho
  have settled : Settled (discardRequest (s.withLu (frameTaken s))) := hset
  rw [hx, request, takeValid_full hup hfull, finish_of_settled settled]
  rfl

/-- What a request does depends on the state that its frame leaves alone. -/
theorem request_congr {kind tag : Byte} {idle : List Byte} {body : State → Served} {s t : State}
    (h : linkTaken s = linkTaken t) : request kind tag idle body s = request kind tag idle body t := by
  unfold request takeValid
  rw [h]

/-- R162 step 1: the report of a link that comes UP is queued before the frame counts. -/
theorem linkTaken_comesUp (hl : s.lu.link = .lost) (hr : RoomForReports s 1) :
    linkTaken s = linkTaken (s.withLu { s.lu with link := .up, reports := reportsWith s [infoNow s .linkUp .none 0] }) := by
  have room : RoomForReports (s.withLu (frameTaken (s.withLu { s.lu with link := .up }))) 1 := hr
  rw [linkTaken_lost hl, linkTaken_up rfl, inform_room room]
  rfl

/-- Settles O14: the two states leave the same state once the frame has been taken. -/
theorem lostLinkComesUp : Obligations.LostLinkComesUp := by
  intro c s hf hl hr
  obtain ⟨octets, ho⟩ := Option.ne_none_iff_exists'.mp hf
  obtain ⟨k, t, p, body, -, hx⟩ := exec_request ho
  rw [hx, hx]
  exact congrArg _ (request_congr (linkTaken_comesUp hl hr))

end Requests

/-! ## The link's timers and its transmitter -/

section Timers
variable {s : State}

theorem exec_linkTimerExpiry (s : State) : exec .linkTimerExpiry s = .next (finish (linkOver s)) := rfl

theorem linkOver_running {n : Nat} (h : s.lu.linkTimer = some n) : linkOver s = loseLink s := by
  unfold linkOver
  rw [if_pos (by rw [h]; nofun)]

/-- R164: the state once the link is LOST and its event has been raised. -/
def linkLost (s : State) : State :=
  (s.withEu (unitAfter s .linkLost)).withLu
    { s.lu with link := .lost, linkTimer := none, reports := reportsWith s [eventNow s .linkLost .none 0] }

theorem loseLink_eq (h : RoomForReports s 1) : loseLink s = takeLinkLoss (linkLost s) := by
  have room : RoomForReports (s.withLu { s.lu with link := .lost, linkTimer := none }) 1 := h
  rw [loseLink, raise_room (by decide) room, unitAfter_withLu]
  rfl

/-- R144: auto-hold makes a SUPERVISED part AUTONOMOUS. -/
theorem takeLinkLoss_held (h : s.cfg.linkSet.autoHold = .on ∧ s.mode = .supervised) :
    takeLinkLoss s = changeMode .autonomous .linkLost s := if_pos h

theorem takeLinkLoss_stands (h : ¬ (s.cfg.linkSet.autoHold = .on ∧ s.mode = .supervised)) : takeLinkLoss s = s :=
  if_neg h

/-- R147: with room, a change of mode queues its report. -/
theorem changeMode_room (m : Mode) (c : ModeCause) (h : RoomForReports s 1) :
    changeMode m c s = (s.withMode m).withReports (reportsWith s [infoNow s .mode (.mode m) c.code]) := by
  have room : RoomForReports (s.withMode m) 1 := h
  rw [changeMode_eq, queueReport_room room]
  rfl

/-- Settles O15: the two reports stand in their order, the second where the mode changes. -/
theorem linkTimerExpiry : Obligations.LinkTimerExpiry := by
  intro n s hn hr hset held
  rw [exec_linkTimerExpiry, linkOver_running hn, loseLink_eq (hr.le (by decide))]
  have settled : Settled (linkLost s) := hset
  by_cases hh : held
  · have room : RoomForReports (linkLost s) 1 :=
      roomForReports_after (s := s) (as := [eventNow s .linkLost .none 0]) hr rfl rfl
    have queued : reportsWith (linkLost s) [infoNow (linkLost s) .mode (.mode .autonomous) ModeCause.linkLost.code]
        = reportsWith s [eventNow s .linkLost .none 0, infoNow s .mode (.mode .autonomous) 1] :=
      reportsWith_append (as := [eventNow s .linkLost .none 0]) _ rfl rfl
    rw [takeLinkLoss_held (s := linkLost s) hh, changeMode_room _ _ room, finish_of_settled (by exact settled),
      if_pos hh, if_pos hh, queued]
    rfl
  · rw [takeLinkLoss_stands (s := linkLost s) hh, finish_of_settled settled, if_neg hh, if_neg hh]
    rfl

theorem exec_fillTimerExpiry (s : State) : exec .fillTimerExpiry s = .next (finish (fillExpiry s)) := rfl

theorem finish_busy (hset : Settled s) (h : s.lu.tx ≠ none) : finish s = s := by
  rw [finish_of_settled hset, sendIfFree_busy h]
  rfl

/-- R166: the payload of a FILL frame with the codes by their lists (log 19). -/
theorem fillPayload_eq (s : State) : fillPayload s =
    longOctets s.plantTime ++ wordOctets s.seq.cycle
      ++ [match s.mode with
          | .supervised => 0
          | .autonomous => 1,
          match s.seq.state with
          | .idle => 0
          | .running => 1
          | .stopping => 2
          | .halted => 3,
          match s.store.state with
          | .reading => 0
          | .idle => 1
          | .writing => 2,
          BitVec.ofNat 8 s.lu.reports.length]
      ++ wordOctets (s.eu.flags.setWidth 16) := by
  unfold fillPayload natOctet
  have mode : codeIn modes s.mode = match s.mode with
      | .supervised => 0
      | .autonomous => 1 := by cases s.mode <;> rfl
  have seq : codeIn seqStates s.seq.state = match s.seq.state with
      | .idle => 0
      | .running => 1
      | .stopping => 2
      | .halted => 3 := by cases s.seq.state <;> rfl
  have store : codeIn storeStates s.store.state = match s.store.state with
      | .reading => 0
      | .idle => 1
      | .writing => 2 := by cases s.store.state <;> rfl
  rw [mode, seq, store]

/-- Settles O16: the FILL frame keeps the transmitter busy, so that nothing else is chosen. -/
theorem fillTimerExpiry : Obligations.FillTimerExpiry := by
  intro n s hn hset
  have running : s.lu.fillTimer ≠ none := by rw [hn]; nofun
  refine ⟨fun htx => ?_, fun htx => ?_⟩
  · have started : fillExpiry s = startFill s := if_pos ⟨running, htx⟩
    have busy : (startFill s).lu.tx ≠ none := nofun
    rw [exec_fillTimerExpiry, started, finish_busy (by exact hset) busy, startFill, fillPayload_eq]
    rfl
  · have stands : fillExpiry s = s := if_neg fun h => htx h.2
    rw [exec_fillTimerExpiry, stands, finish_busy hset htx]

theorem exec_transmitFrameEnd (s : State) : exec .transmitFrameEnd s = .next (finish (frameEnd s)) := rfl

/-- R165: the end of a frame that brings no power-on frees the transmitter. -/
theorem frameEnd_frees {f : TxFrame} (h : s.lu.tx = some f) (hp : f.powerOn = false) :
    frameEnd s = s.withLu { s.lu with tx := none, fillTimer := some (fillInterval s) } := by
  unfold frameEnd
  rw [h]
  dsimp only
  rw [hp]
  rfl

/-- Settles O17: the freed transmitter chooses by the two queues. -/
theorem transmitFrameEnd : Obligations.TransmitFrameEnd := by
  intro f s hf hset
  refine ⟨fun hp => ?_, fun hp => ?_⟩
  · have ends (u : LinkUnit) (hu : sendIfFree { s.lu with tx := none, fillTimer := some (fillInterval s) } = u) :
        exec .transmitFrameEnd s = .next (s.withLu u) := by
      rw [exec_transmitFrameEnd, frameEnd_frees hf hp, finish_of_settled (by exact hset), ← hu]
      rfl
    refine ⟨fun r rest hr => ends _ ?_, fun r rest hr hst hrep => ends _ ?_, fun hr hno => ends _ ?_⟩
    · simp only [sendIfFree, if_true, chooseFrame, hr]
      rfl
    · simp only [sendIfFree, if_true, chooseFrame, hr, hst, hrep]
      rfl
    · simp only [sendIfFree, if_true, chooseFrame, hr]
      cases hst : s.lu.stream
      · rfl
      · rfl
      · rcases hno with hno | hno
        · exact absurd hst hno
        · rw [hno]
          rfl
  · have ends : frameEnd s = powerOn s.ratePin s := by
      unfold frameEnd
      rw [hf]
      exact if_pos hp
    rw [exec_transmitFrameEnd, ends]
    rfl

end Timers

/-! ## Reports (R167, R168) -/

section Reports
variable {s : State}

/-- R168: a loss is counted, and sets its flag once. -/
theorem countLoss_eq (s : State) : countLoss s =
    (s.withEu (if s.flag .reportLoss then s.eu else unitAfter s .reportLoss)).withLu
      { s.lu with losses := satSucc 65535 s.lu.losses } := by
  unfold countLoss
  dsimp only
  by_cases h : s.flag .reportLoss = true
  · have hf : (s.withLu { s.lu with losses := satSucc 65535 s.lu.losses }).flag .reportLoss = true := h
    rw [if_pos hf, if_pos h]
    rfl
  · have hf : ¬ (s.withLu { s.lu with losses := satSucc 65535 s.lu.losses }).flag .reportLoss = true := h
    rw [if_neg hf, if_neg h, setFlag_eq, unitAfter_withLu]
    rfl

/-- R168: the oldest sample report is dropped. -/
theorem eraseP_sample {before after : List Report} {x : SampleReport} (h : ∀ y ∈ before, y.isSample = false) :
    (before ++ .sample x :: after).eraseP Report.isSample = before ++ after := by
  rw [List.eraseP_append_right _ (fun y hy => by rw [h y hy]; nofun), List.eraseP_cons_of_pos rfl]

/-- Settles O18: the branches of the queueing in their order. -/
theorem reportQueueing : Obligations.ReportQueueing := by
  intro r s lost
  have full (hon : s.lu.stream ≠ .off) (hn : 64 ≤ s.lu.reports.length) : queueReport r s =
      if r.isSample then countLoss s
      else if s.lu.reports.any Report.isSample then countLoss (pushReport r (dropOldestSample s)) else countLoss s := by
    unfold queueReport
    rw [if_neg hon, if_neg (by unfold reportCapacity; omega)]
  refine ⟨queueReport_off, fun hon hn => ?_, fun hon hn hs => ?_, fun hon hn hs => ⟨fun before x after he hb => ?_,
    fun hnone => ?_⟩⟩
  · unfold queueReport
    rw [if_neg hon, if_pos (show _ < reportCapacity from hn)]
    rfl
  · rw [full hon hn, if_pos hs, countLoss_eq]
    rfl
  · have some : s.lu.reports.any Report.isSample = true := by rw [he]; simp [Report.isSample]
    rw [full hon hn, if_neg (by rw [hs]; nofun), if_pos some, countLoss_eq]
    simp only [pushReport, dropOldestSample, he, eraseP_sample hb]
    rfl
  · have none : s.lu.reports.any Report.isSample = false := by
      rw [List.any_eq_false]
      exact fun y hy => by rw [hnone y hy]; nofun
    rw [full hon hn, if_neg (by rw [hs]; nofun), if_neg (by rw [none]; nofun), countLoss_eq]
    rfl

end Reports
end Sys2Proof.Machine
end

section
/-! PROOFS. Octets that complete no frame (R160), and requests that are answered on the state they leave (Chapter 9). -/

namespace Sys2Proof.Machine

/-! ## Work that leaves the window -/

section Calm

/-- What leaves the sequencer and the window where they stand. -/
def calmness : Allow where
  walk := False
  window := False
  load _ := False
  written _ := True
  tick := True
  reset := False

/-- Updates that leave the sequencer and the window where they stand. -/
abbrev Calm (s t : State) : Prop := Acts calmness s t

/-- No decision is due, and a post brings none. -/
def Undecided (s : State) : Prop := s.arb.due = false ∧ PostsWait s

theorem Undecided.posted {s : State} (h : Undecided s) : Undecided (posted s) := by
  obtain ⟨hd, hw⟩ := h
  exact ⟨by simp [Machine.posted, hd, hw], hw⟩

theorem Undecided.postFrost {s : State} (a : Nat) (h : Undecided s) : Undecided (postFrost a s) := by
  unfold Machine.postFrost
  split
  · exact h
  · exact Undecided.posted (s := s.withArb _) h

theorem Undecided.postFlush {s : State} (r : FlushRequest) (h : Undecided s) : Undecided (postFlush r s) := by
  unfold Machine.postFlush
  split
  · split
    · exact h
    · exact h
  · exact Undecided.posted (s := s.withArb _) h

theorem Undecided.postPass {s : State} (r : PassRequest) (h : Undecided s) : Undecided (postPass r s) := by
  unfold Machine.postPass
  split
  · exact Undecided.posted (s := s.withArb _) h
  · exact h

theorem Undecided.postProbe {s : State} (t : ProbeTarget) (h : Undecided s) : Undecided (postProbe t s) := by
  unfold Machine.postProbe
  split
  · exact h
  · exact Undecided.posted (s := s.withArb _) h

theorem Act.undecided {O O' : Set Nat} {s t : State} (h : Act calmness (O, s) (O', t)) (hs : Undecided s) :
    Undecided t := by
  cases h with
  | queues a ha =>
    rcases ha.window with h | ⟨hw, hd⟩
    · exact (h.elim id id).elim
    · exact ⟨hd.trans hs.1, by rw [PostsWait, withArb_arb, hw]; exact hs.2⟩
  | postFrost a _ => exact hs.postFrost a
  | postFlush r _ => exact hs.postFlush r
  | postPass r => exact hs.postPass r
  | postProbe t _ => exact hs.postProbe t
  | powerOn _ h => exact h.elim
  | _ => exact hs

theorem Act.seq_calm {O O' : Set Nat} {s t : State} (h : Act calmness (O, s) (O', t)) : t.seq = s.seq :=
  h.seq_eq id id

/-- R131: work that posts leaves a settled part settled where no run-to-end window waits. -/
theorem Acts.settled {s t : State} (h : Calm s t) (hs : Settled s) (hw : PostsWait s) : Settled t := by
  have undecided : Undecided t := reach_keeps (fun a hs => a.undecided hs) (h.reach ∅) ⟨hs.2, hw⟩
  have seq : t.seq = s.seq := reach_keeps (P := fun u => u.seq = s.seq) (fun a hu => a.seq_calm.trans hu) (h.reach ∅) rfl
  exact ⟨by rw [seq]; exact hs.1, undecided.1⟩

end Calm

/-! ## Octets that complete no frame (R160) -/

section Octets
variable {s : State}

theorem exec_octet (b : Byte) (s : State) : exec (.receiverOctet b false) s = .next (receive b s) := rfl

theorem feedBound_pos (n : Nat) : ∃ m, feedBound n = m + 1 := ⟨n * n + 2 * n, by unfold feedBound; ring⟩

/-- With no octet left, a rescan that is not closing ends. -/
theorem feed_open_nil (fuel : Nat) (s : State) : feed false fuel [] s = s := by
  cases fuel <;> simp [feed]

/-- R160: an octet that completes nothing is held, or dropped. -/
theorem receive_goOn {b : Byte} {rx : Receiver} (h : takeOctet s.lu.rx b = .goOn rx) : receive b s = setRx rx s := by
  obtain ⟨m, hm⟩ := feedBound_pos (s.lu.rx.held.length + 1)
  unfold receive
  rw [hm, feed, h]
  exact feed_open_nil m _

/-- Settles O10: each octet leaves the receiver that R160 says. -/
theorem receiverStates : Obligations.ReceiverStates := by
  intro b s rxTo
  have goes {rx : Receiver} (h : takeOctet s.lu.rx b = .goOn rx) : exec (.receiverOctet b false) s = .next (rxTo rx) := by
    rw [exec_octet, receive_goOn h]
    rfl
  refine ⟨fun hs => goes ?_, fun hs hh => goes ?_, fun hs hh h2 h240 => goes ?_, fun len rest hs hh hlen => goes ?_⟩
  · unfold takeOctet
    rw [hs]
    dsimp only
    split
    · next hb => rw [hb]; rfl
    · rfl
  · unfold takeOctet
    rw [hs, hh]
    dsimp only
    rw [if_pos (by decide)]
    split
    · next hb => rw [hb]; rfl
    split
    · next hb => rw [hb]; rfl
    · rfl
  · unfold takeOctet
    rw [hs, hh]
    dsimp only
    rw [if_neg (by decide), if_pos (lenOk_iff.mpr ⟨h2, h240⟩)]
    rfl
  · unfold takeOctet
    rw [hs, hh]
    simp only [takeBody, List.cons_append, List.length_append, List.length_singleton]
    rw [if_neg (by omega)]
    rfl

end Octets

/-! ## RESET LINK, RESET FULL and ACK -/

section LinkRequests
variable {s : State}

theorem exec_resetLink (tag : Byte) (s : State) :
    exec (.resetLink tag) s = .next (request kindCommand tag [codeReset] serveResetLink s) := rfl

theorem exec_resetFull (tag : Byte) (s : State) :
    exec (.resetFull tag) s = .next (request kindCommand tag [codeReset] serveResetFull s) := rfl

theorem exec_ack (tag : Byte) (classes : Word) (s : State) :
    exec (.ack tag classes) s = .next (request kindCommand tag [codeAck] (serveAck classes) s) := rfl

theorem linkSettings_served (h : ¬ s.Starting) : linkSettings s = s.cfg.linkSet := if_neg h

/-- Settles O20: the link reset, the power-on that waits, and the answer of a RESET FULL. -/
theorem resetLinkAndFull : Obligations.ResetLinkAndFull := by
  intro tag s h
  obtain ⟨hserved, hup, hroom, hset⟩ := id h
  refine ⟨fun hnone => ?_, fun hsome => ?_, ?_⟩
  · have queued : powerOnQueued (s.withLu (frameTaken s)) = false := by
      rw [powerOnQueued, List.any_eq_false]
      exact fun r hr => by rw [hnone r hr]; nofun
    have served : serveResetLink (s.withLu (frameTaken s)) = accept codeReset (linkReset (s.withLu (frameTaken s))) :=
      if_neg (by rw [queued]; nofun)
    have settled : Settled (linkReset (s.withLu (frameTaken s))) := hset
    have timeout : linkTimeout (s.withLu (frameTaken s)) = 100000 * s.cfg.linkSet.linkTimeout := by
      rw [linkTimeout, linkSettings_served (by exact hserved)]
      rfl
    rw [exec_resetLink, request_answered h served settled, linkReset, timeout]
    rfl
  · have queued : powerOnQueued (s.withLu (frameTaken s)) = true := by
      obtain ⟨r, hr, hp⟩ := hsome
      exact List.any_eq_true.mpr ⟨r, hr, hp⟩
    have served : serveResetLink (s.withLu (frameTaken s)) = (powerOn s.ratePin (s.withLu (frameTaken s)), none) :=
      if_pos queued
    rw [exec_resetLink, request_ready h, served]
    exact congrArg Host.Outcome.next ((finish_powerOn ..).trans (finish_powerOn s.ratePin s).symm)
  · have settled (a : Answer) : Settled (respond kindCommand tag a (s.withLu (frameTaken s))) := hset
    have first : (!(powerOnQueued (s.withLu (frameTaken s)) || powerOnSending (s.withLu (frameTaken s))))
        = (s.lu.responses.all (fun r => !r.powerOn) && s.lu.tx.all fun f => !f.powerOn) := by
      rw [Bool.not_or]
      congr 1
      · exact List.not_any_eq_all_not ..
      · show (!(s.lu.tx.any (·.powerOn))) = s.lu.tx.all fun f => !f.powerOn
        cases s.lu.tx <;> rfl
    rw [exec_resetFull, request_ready h]
    show Host.Outcome.next (finish (respond kindCommand tag _ (s.withLu (frameTaken s)))) = _
    rw [finish_of_settled (settled _), first]
    rfl

/-- Settles O22: the flags of the twelve classes, and a set beyond them. -/
theorem ackClearsFlags : Obligations.AckClearsFlags := by
  intro tag classes s h
  obtain ⟨hserved, hup, hroom, hset⟩ := id h
  have beyond : classes >>> 12 = 0 ↔ classes.toNat < 4096 := by
    rw [← BitVec.toNat_inj, BitVec.toNat_ushiftRight, Nat.shiftRight_eq_div_pow]
    show classes.toNat / 2 ^ 12 = 0 ↔ _
    omega
  refine ⟨fun hc => ?_, fun hc => ?_⟩
  · have served : serveAck classes (s.withLu (frameTaken s))
        = accept codeAck (clearFlags (classes.setWidth 12) (s.withLu (frameTaken s))) :=
      if_neg fun k => k (beyond.mpr hc)
    have settled : Settled (clearFlags (classes.setWidth 12) (s.withLu (frameTaken s))) := by
      rw [clearFlags_eq]
      exact hset
    rw [exec_ack, request_answered h served settled, clearFlags_eq]
    rfl
  · have served : serveAck classes (s.withLu (frameTaken s)) = refuse .badValue [codeAck] (s.withLu (frameTaken s)) :=
      if_pos fun k => absurd (beyond.mp k) (by omega)
    rw [exec_ack, request_refused h served]
    rfl

end LinkRequests

/-! ## DEMAND (R174) -/

section Demand
variable {s : State}

theorem exec_demand (tag : Byte) (pairs : List (Byte × Word)) (s : State) :
    exec (.demand tag pairs) s = .next (request kindDemand tag [0, 0] (serveDemand pairs) s) := rfl

theorem setDemand_eq (s : State) (a : Nat) (d : Option Nat) : ∃ x, s.setDemand a d = s.withDemand x := by
  unfold State.setDemand
  split
  · exact ⟨s.demand, rfl⟩
  · exact ⟨_, rfl⟩

/-- R174: the pairs touch the demand entries alone. -/
theorem demandPairs_eq (pairs : List (Byte × Word)) (s : State) :
    ∃ x, pairs.foldl (fun t p => demandPair p t) s = s.withDemand x := by
  refine foldl_keeps (P := fun t => ∃ x, t = s.withDemand x) demandPair (fun p t ⟨x, hx⟩ => ?_) pairs s ⟨s.demand, rfl⟩
  unfold demandPair
  split
  · obtain ⟨y, hy⟩ := setDemand_eq t p.1.toNat (some (min 1000 p.2.toNat))
    exact ⟨y, by rw [hy, hx]; rfl⟩
  · exact ⟨x, hx⟩

/-- A node of a kind other than NONE is one of the part. -/
theorem kindOf_inPart {a : Nat} (h : s.kindOf a ≠ .none) : InPart a := by
  unfold State.kindOf State.nodeCfg at h
  split at h
  · exact absurd rfl h
  · by_contra hi
    unfold InPart at hi
    rw [Vector.getElem?_eq_none (by omega)] at h
    exact h rfl

theorem isActuator_inPart {a : Nat} (h : isActuator (s.kindOf a) = true) : InPart a :=
  kindOf_inPart fun k => by rw [k] at h; cases h

/-- What a pair leaves of a node's entry. -/
theorem demandOf_demandPair (p : Byte × Word) (a : Nat) (s : State) :
    (demandPair p s).demandOf a =
      if p.1.toNat = a then if isActuator (s.kindOf a) then some (min 1000 p.2.toNat) else s.demandOf a
      else s.demandOf a := by
  unfold demandPair
  by_cases hp : p.1.toNat = a
  · subst hp
    by_cases hk : isActuator (s.kindOf p.1.toNat) = true
    · obtain ⟨h1, h48⟩ := isActuator_inPart hk
      simp [hk, demandOf_setDemand, h1, h48]
    · simp [hk]
  · split <;> simp [demandOf_setDemand, hp]

/-- R174: the last pair for a node stands. -/
theorem demandOf_demandPairs (pairs : List (Byte × Word)) (s : State) (a : Nat) :
    (pairs.foldl (fun t p => demandPair p t) s).demandOf a =
      match pairs.reverse.find? (fun p => p.1.toNat == a) with
      | some p => if isActuator (s.kindOf a) then some (min 1000 p.2.toNat) else s.demandOf a
      | none => s.demandOf a := by
  induction pairs using List.reverseRecOn with
  | nil => rfl
  | append_singleton ps p ih =>
    have kind : (ps.foldl (fun t p => demandPair p t) s).kindOf a = s.kindOf a := by
      obtain ⟨x, hx⟩ := demandPairs_eq ps s
      rw [hx]
      rfl
    rw [List.foldl_append, List.foldl_cons, List.foldl_nil, demandOf_demandPair, kind, ih, List.reverse_append,
      List.reverse_singleton, List.singleton_append]
    by_cases hp : p.1.toNat = a
    · rw [List.find?_cons_of_pos (by simpa using hp), if_pos hp]
      split
      · rfl
      · split <;> rfl
    · rw [List.find?_cons_of_neg (by simpa using hp), if_neg hp]

/-- Settles O23: the pairs touch the demand entries alone, and the last one for a node stands. -/
theorem demandApplied : Obligations.DemandApplied := by
  intro tag pairs s h
  obtain ⟨hserved, hup, hroom, hset⟩ := id h
  refine ⟨fun hne hlen => ?_, fun hlen => ?_⟩
  · obtain ⟨x, hx⟩ := demandPairs_eq pairs (s.withLu (frameTaken s))
    have entries := demandOf_demandPairs pairs (s.withLu (frameTaken s))
    have served : serveDemand pairs (s.withLu (frameTaken s)) =
        ((s.withLu (frameTaken s)).withDemand x, some (.plain .ok
          [natOctet (acceptedPairs s pairs), natOctet (pairs.length - acceptedPairs s pairs)])) := by
      rw [← hx]
      exact if_neg fun k => k.elim hne fun k => absurd k (by omega)
    have settled : Settled ((s.withLu (frameTaken s)).withDemand x) := hset
    have ignored : pairs.length - acceptedPairs s pairs = pairs.countP fun p => !isActuator (s.kindOf p.1.toNat) := by
      have := List.length_eq_countP_add_countP (fun p : Byte × Word => isActuator (s.kindOf p.1.toNat)) (l := pairs)
      unfold acceptedPairs
      simp only [Bool.not_eq_true, Bool.decide_eq_false] at this
      omega
    refine ⟨_, by rw [exec_demand, request_answered h served settled], by rw [ignored]; rfl, ?_⟩
    rw [hx] at entries
    exact entries
  · have served : serveDemand pairs (s.withLu (frameTaken s)) = refuse .badLength [0, 0] (s.withLu (frameTaken s)) :=
      if_pos hlen
    rw [exec_demand, request_refused h served]
    rfl

end Demand

/-! ## START, STOP and FLUSH, and PASS -/

section Controls
variable {s : State}

theorem exec_pass (tag node operation parameter : Byte) (value : Word) (s : State) :
    exec (.pass tag node operation parameter value) s
      = .next (request kindPass tag [] (servePass tag node operation parameter value) s) := rfl

theorem exec_stop (tag : Byte) (s : State) : exec (.stop tag) s = .next (request kindCommand tag [codeStop] serveStop s) :=
  rfl

theorem exec_flush (tag sec : Byte) (s : State) :
    exec (.flush tag sec) s = .next (request kindCommand tag [codeFlush] (serveFlush sec) s) := rfl

/-- R131: a post that waits joins its queue and brings nothing else. -/
theorem posted_waits (h : PostsWait s) : posted s = s := by
  have due : (s.arb.due || s.arb.window.waiting) = s.arb.due := by rw [h, Bool.or_false]
  unfold posted
  rw [due]
  rfl

theorem postPass_waits (r : PassRequest) (h : PostsWait s) (hroom : s.arb.pass.length < 8) :
    postPass r s = s.withArb { s.arb with pass := s.arb.pass ++ [r] } := by
  unfold postPass
  rw [if_pos (show _ < passCapacity from hroom)]
  exact posted_waits (s := s.withArb _) h

/-- R123: a post to FLUSH that no entry absorbs. -/
theorem postFlush_waits {r : FlushRequest} (h : PostsWait s)
    (hn : s.arb.flush.any (·.sameKey r) = false) :
    postFlush r s = s.withArb { s.arb with flush := s.arb.flush ++ [r] } := by
  unfold postFlush
  rw [if_neg (by rw [hn]; nofun)]
  exact posted_waits (s := s.withArb _) h

/-- R123: a post to FLUSH that an entry absorbs, and that is not mandatory. -/
theorem postFlush_absorbed {r : FlushRequest} (hm : r.mandatory = false) (hn : s.arb.flush.any (·.sameKey r) = true) :
    postFlush r s = s := by
  unfold postFlush
  rw [if_pos hn, if_neg (by rw [hm]; nofun)]

theorem postFrost_waits (a : Nat) (h : PostsWait s) :
    postFrost a s = s.withArb { s.arb with frost := frostWith s true a } := by
  unfold postFrost frostWith
  by_cases hc : s.arb.frost.contains a = true
  · simp only [hc]
    rfl
  · simp only [hc]
    exact posted_waits (s := s.withArb _) h

theorem postProbe_waits (t : ProbeTarget) (h : PostsWait s) :
    postProbe t s = s.withArb { s.arb with probe := if s.arb.probe.contains t then s.arb.probe else s.arb.probe ++ [t] } := by
  unfold postProbe
  by_cases hc : s.arb.probe.contains t = true
  · simp only [hc]
    rfl
  · simp only [hc]
    exact posted_waits (s := s.withArb _) h

theorem valueOf_passOps {b : Byte} (h : b.toNat ≤ 1) :
    valueOf passOps b = some (if b = 0 then .paramRead else .paramWrite) := by
  have : b = 0 ∨ b = 1 := by
    rcases Nat.le_one_iff_eq_zero_or_eq_one.mp h with h | h
    · exact .inl (BitVec.eq_of_toNat_eq h)
    · exact .inr (BitVec.eq_of_toNat_eq h)
  rcases this with rfl | rfl <;> rfl

/-- R181: the findings on a PASS whose operation is one of the two, in their order. -/
theorem servePass_judged {operation : Byte} (tag node parameter : Byte) (value : Word) (hop : operation.toNat ≤ 1)
    (s : State) : servePass tag node operation parameter value s =
      if node = 0 ∨ 48 < node.toNat then refuse .badIndex [] s
      else if s.kindOf node.toNat = .none then refuse .badIndex [] s
      else if (s.node node.toNat).health = .silent then refuse .nodeSilent [] s
      else if 8 ≤ s.arb.pass.length then refuse .full [] s
      else (postPass
        { tag := tag, node := node.toNat, op := if operation = 0 then .paramRead else .paramWrite,
          parameter := parameter, value := value } s, some (.plain .ok [])) := by
  unfold servePass
  rw [valueOf_passOps hop]
  rfl

/-- A node octet that names a node of some kind lies within the part. -/
theorem octet_inPart {node : Byte} (hk : s.kindOf node.toNat ≠ .none) : ¬ (node = 0 ∨ 48 < node.toNat) := by
  obtain ⟨h1, h48⟩ := kindOf_inPart hk
  rintro (rfl | hn)
  · exact absurd h1 (by decide)
  · exact absurd h48 (by omega)

/-- Settles O34: the findings of R181 in their order. -/
theorem passRequests : Obligations.PassRequests := by
  intro tag node operation parameter value s h a answeredWith result
  obtain ⟨hserved, hup, hroom, hset⟩ := id h
  have refused {code : ResultCode} (hb : servePass tag node operation parameter value (s.withLu (frameTaken s))
      = refuse code [] (s.withLu (frameTaken s))) : result = answeredWith code := by
    show exec _ s = _
    rw [exec_pass, request_refused h hb]
    rfl
  refine ⟨fun hop => refused ?_, fun hop => ?_⟩
  · unfold servePass
    rw [valueOf_eq_none (by exact hop)]
  have judged : servePass tag node operation parameter value (s.withLu (frameTaken s)) =
      if node = 0 ∨ 48 < node.toNat then refuse .badIndex [] (s.withLu (frameTaken s))
      else if s.kindOf a = .none then refuse .badIndex [] (s.withLu (frameTaken s))
      else if (s.node a).health = .silent then refuse .nodeSilent [] (s.withLu (frameTaken s))
      else if 8 ≤ s.arb.pass.length then refuse .full [] (s.withLu (frameTaken s))
      else (postPass
        { tag := tag, node := a, op := if operation = 0 then .paramRead else .paramWrite, parameter := parameter,
          value := value } (s.withLu (frameTaken s)), some (.plain .ok [])) := servePass_judged tag node parameter value hop _
  refine ⟨fun ha => refused ?_, fun hk => refused ?_, fun hk hs => refused ?_, fun hk hs hf => refused ?_,
    fun hk hs hf hw => ?_⟩
  · rw [judged, if_pos (ha.imp_left fun h0 => BitVec.eq_of_toNat_eq h0)]
  · rw [judged, if_pos hk, ite_self]
  · rw [judged, if_neg (octet_inPart hk), if_neg hk, if_pos hs]
  · rw [judged, if_neg (octet_inPart hk), if_neg hk, if_neg (by rw [hs]; nofun), if_pos hf]
  · have served := judged
    rw [if_neg (octet_inPart hk), if_neg hk, if_neg (by rw [hs]; nofun), if_neg (by omega),
      postPass_waits (s := s.withLu (frameTaken s)) _ hw hf] at served
    show exec _ s = _
    rw [exec_pass, request_answered h served hset]
    rfl

/-- Settles O40: the refusals, the absorbed START and the one that joins. -/
theorem flushCommand : Obligations.FlushCommand := by
  intro tag sec s h
  obtain ⟨hserved, hup, hroom, hset⟩ := id h
  refine ⟨fun hsec => ?_, fun hsec hoff => ?_, fun hsec hon => ?_⟩
  · have served : serveFlush sec (s.withLu (frameTaken s)) = refuse .badIndex [codeFlush] (s.withLu (frameTaken s)) :=
      if_pos hsec
    rw [exec_flush, request_refused h served]
    rfl
  · have served : serveFlush sec (s.withLu (frameTaken s)) = refuse .badValue [codeFlush] (s.withLu (frameTaken s)) := by
      unfold serveFlush
      rw [if_neg (by omega), if_pos (by exact hoff)]
    rw [exec_flush, request_refused h served]
    rfl
  · have served : serveFlush sec (s.withLu (frameTaken s)) = accept codeFlush
        (postFlush { sec := sec.toNat, kind := .pulseStart, mandatory := false } (s.withLu (frameTaken s))) := by
      have on : ¬ ((s.withLu (frameTaken s)).secCfg sec.toNat).enabled = false := by
        show ¬ (s.secCfg sec.toNat).enabled = false
        rw [hon]
        nofun
      unfold serveFlush
      rw [if_neg (by omega), if_neg on]
    have same : (fun r : FlushRequest => r.sameKey { sec := sec.toNat, kind := .pulseStart, mandatory := false })
        = fun r => decide (r.key = (sec.toNat, .pulseStart)) := by
      funext r
      rw [Bool.eq_iff_iff, sameKey_iff, decide_eq_true_eq]
      rfl
    refine ⟨fun hq => ?_, fun hq hw => ?_⟩
    · rw [postFlush_absorbed rfl (by rw [same]; exact hq)] at served
      rw [exec_flush, request_refused h served]
      rfl
    · rw [postFlush_waits (s := s.withLu (frameTaken s)) hw (by rw [same]; exact hq)] at served
      rw [exec_flush, request_answered h served hset]
      rfl

theorem clearWindow_settled {s : State} (h : Settled s) : clearWindow s = s.withArb (windowShut s.arb) := by
  have due : ({ s.arb with window := Window.closed, due := false } : Arbiter) = windowShut s.arb := by
    unfold windowShut Window.closed
    rw [← h.2]
  unfold clearWindow
  rw [due]

/-- Settles O37: the four ends of a walk's slot. -/
theorem stopWhileRunning : Obligations.StopWhileRunning := by
  intro tag s h hrun ok
  obtain ⟨hserved, hup, hroom, hset⟩ := id h
  have stops {u : State} (hu : stopRunning (s.withLu (frameTaken s)) = u.withLu (frameTaken s)) (hs : Settled u) :
      exec (.stop tag) s = .next (u.withLu ok) := by
    have served : serveStop (s.withLu (frameTaken s)) = accept codeStop (u.withLu (frameTaken s)) := by
      rw [← hu, serveStop, stopWalk]
      show accept codeStop (match s.seq.state with | .running => _ | .stopping => _ | .idle => _ | .halted => _) = _
      rw [hrun]
    rw [exec_stop, request_answered h served hs]
    rfl
  have idle : (s.seq.rest .idle) = restingAs s.seq .idle := by
    unfold Sequencer.rest restingAs
    rw [hset.1]
  have rests {u : State} (hu : stopRunning (s.withLu (frameTaken s)) = enterIdle (u.withLu (frameTaken s)))
      (hq : u.seq = s.seq) (hd : u.arb.due = false) :
      exec (.stop tag) s = .next ((u.withSeq (restingAs s.seq .idle)).withLu ok) := by
    refine stops (u := u.withSeq (restingAs s.seq .idle)) ?_ ⟨hset.1, hd⟩
    rw [hu, ← idle, ← hq]
    rfl
  refine ⟨fun ha => stops (u := enterStopping s) ?_ hset, fun ha hf =>
    stops (u := enterStopping (s.withArb { s.arb with window := { s.arb.window with stopping := true } })) ?_ hset,
    fun ha hf => ?_, fun ha => ?_⟩
  · unfold stopRunning
    rw [show (s.withLu (frameTaken s)).seq.activity = _ from ha]
    rfl
  · unfold stopRunning
    rw [show (s.withLu (frameTaken s)).seq.activity = _ from ha]
    exact if_neg hf
  · have cleared : exec (.stop tag) s = .next (((clearWindow s).withSeq (restingAs s.seq .idle)).withLu ok) := by
      refine rests (u := clearWindow s) ?_ rfl rfl
      unfold stopRunning
      rw [show (s.withLu (frameTaken s)).seq.activity = _ from ha]
      exact if_pos hf
    rw [cleared, clearWindow_settled hset]
    rfl
  · refine rests (u := s) ?_ rfl hset.2
    unfold stopRunning
    rcases ha with ha | ha <;> rw [show (s.withLu (frameTaken s)).seq.activity = _ from ha]

end Controls
end Sys2Proof.Machine
end

section
/-! PROOFS. The tables: the entries of a TABLE_WRITE in order (R175), the refusals that every table shares, and a
TABLE_READ (R177). -/

namespace Sys2Proof.Machine

/-! ## The entries of a TABLE_WRITE in order (R175) -/

section Writes
variable {ε : Type} {w : WriteRules ε} {s : State}

theorem judgeEntry_outside {i : Nat} (e : ε) (h : i < w.first ∨ w.last < i) : judgeEntry w i e s = .inl .badIndex :=
  if_pos h

theorem judgeEntry_writing {i : Nat} (e : ε) (h1 : w.first ≤ i) (h2 : i ≤ w.last) (h : s.store.state = .writing) :
    judgeEntry w i e s = .inl .busy := by
  unfold judgeEntry
  rw [if_neg (by omega), if_pos h]

theorem judgeEntry_walking {i : Nat} (e : ε) (h1 : w.first ≤ i) (h2 : i ≤ w.last) (hg : w.walkGuard = true)
    (h : s.seq.state = .running ∨ s.seq.state = .stopping) : judgeEntry w i e s = .inl .busy := by
  have walks : walking s = true := by
    unfold walking
    rcases h with h | h <;> rw [h] <;> rfl
  unfold judgeEntry
  rw [if_neg (by omega)]
  split
  · rfl
  · exact if_pos ⟨hg, walks⟩

/-- An entry that its index, the store and the walk let through is judged by its table. -/
theorem judgeEntry_applied {i : Nat} (e : ε) (h1 : w.first ≤ i) (h2 : i ≤ w.last) (hs : s.store.state ≠ .writing)
    (hg : w.walkGuard = true → walking s = false) :
    judgeEntry w i e s = match w.apply i e s with
      | some t => .inr t
      | none => .inl .badValue := by
  unfold judgeEntry
  rw [if_neg (by omega), if_neg hs, if_neg fun ⟨k, kw⟩ => by rw [hg k] at kw; cases kw] <;> rfl

theorem writeEntries_cons (e : ε) (es : List ε) (i n : Nat) (s : State) :
    writeEntries w (e :: es) i n s = match judgeEntry w i e s with
      | .inl code => { state := s, code := code, written := n }
      | .inr t => writeEntries w es (i + 1) (n + 1) t := rfl

/-- The entries written before stand in the count alone. -/
theorem writeEntries_from (es : List ε) (i n : Nat) (s : State) :
    writeEntries w es i n s =
      { writeEntries w es i 0 s with written := n + (writeEntries w es i 0 s).written } := by
  induction es generalizing i n s with
  | nil => rfl
  | cons e es ih =>
    rw [writeEntries_cons, writeEntries_cons]
    cases judgeEntry w i e s with
    | inl code => rfl
    | inr t =>
      dsimp only
      rw [ih (i + 1) (n + 1) t, ih (i + 1) (0 + 1) t]
      simp only [WriteResult.mk.injEq, true_and]
      omega

/-- The state that the first `k` of a list of entries leave. -/
abbrev leftBy (w : WriteRules ε) (es : List ε) (i : Nat) (s : State) (k : Nat) : State :=
  (writeEntries w (es.take k) i 0 s).state

theorem leftBy_cons {e : ε} {i : Nat} {s t : State} (h : judgeEntry w i e s = .inr t) (es : List ε) (k : Nat) :
    leftBy w (e :: es) i s (k + 1) = leftBy w es (i + 1) t k := by
  unfold leftBy
  rw [List.take_succ_cons, writeEntries_cons, h]
  dsimp only
  rw [writeEntries_from]

/-- R175: where a write stops, and what it has done until there. -/
theorem writeEntries_stops (es : List ε) (i : Nat) (s : State) :
    let whole := writeEntries w es i 0 s
    whole.written ≤ es.length ∧ whole.state = leftBy w es i s whole.written
      ∧ (∀ k, k < whole.written → ∃ e, es[k]? = some e
          ∧ judgeEntry w (i + k) e (leftBy w es i s k) = .inr (leftBy w es i s (k + 1)))
      ∧ (∀ e, es[whole.written]? = some e → judgeEntry w (i + whole.written) e whole.state = .inl whole.code)
      ∧ (es[whole.written]? = none → whole.code = .ok) := by
  induction es generalizing i s with
  | nil => exact ⟨Nat.le_refl _, rfl, fun k hk => absurd hk (Nat.not_lt_zero k), nofun, fun _ => rfl⟩
  | cons e es ih =>
    rw [writeEntries_cons]
    cases hj : judgeEntry w i e s with
    | inl code =>
      refine ⟨Nat.zero_le _, rfl, fun k hk => absurd hk (Nat.not_lt_zero k), fun x hx => ?_, nofun⟩
      cases Option.some.inj hx
      exact hj
    | inr t =>
      obtain ⟨hle, hstate, hbefore, hat, hend⟩ := ih (i + 1) t
      dsimp only at hle hstate hbefore hat hend ⊢
      rw [writeEntries_from]
      dsimp only
      rw [Nat.add_comm (0 + 1), Nat.zero_add]
      refine ⟨Nat.succ_le_succ hle, by rw [leftBy_cons hj]; exact hstate, fun k hk => ?_, fun x hx => ?_, fun hx => ?_⟩
      · cases k with
        | zero =>
          refine ⟨e, rfl, hj.trans ?_⟩
          rw [leftBy_cons hj]
          rfl
        | succ k =>
          obtain ⟨x, hx, hjx⟩ := hbefore k (Nat.lt_of_succ_lt_succ hk)
          refine ⟨x, hx, ?_⟩
          rw [leftBy_cons hj, leftBy_cons hj, show i + (k + 1) = i + 1 + k by omega]
          exact hjx
      · rw [show i + ((writeEntries w es (i + 1) 0 t).written + 1) = i + 1 + (writeEntries w es (i + 1) 0 t).written by omega]
        exact hat x hx
      · exact hend hx

end Writes

/-- Settles O27: the order of the checks, and where the entries of a write stop. -/
theorem writeStopsAtFirstRefusal : Obligations.WriteStopsAtFirstRefusal := fun _ _ =>
  ⟨fun _ e _ => ⟨judgeEntry_outside e, judgeEntry_writing e, judgeEntry_walking e⟩, writeEntries_stops⟩

/-! ## The refusals that every table shares, and the answer of a write -/

section Requests
variable {ε : Type} {w : WriteRules ε} {s : State} {c : Instr} {tag first count : Byte} {es : List ε}

/-- A first entry that is refused whatever it says. -/
theorem serveWrite_refused {code : ResultCode} (hn : count ≠ 0) (hl : es.length = count.toNat)
    (h : ∀ e, judgeEntry w first.toNat e s = .inl code) :
    serveWrite w first count es s = refuse code [0] s := by
  have positive : count.toNat ≠ 0 := fun k => hn (BitVec.eq_of_toNat_eq k)
  unfold serveWrite
  rw [if_neg fun k => k.elim hn fun k => k hl]
  cases es with
  | nil => exact absurd hl.symm positive
  | cons e es =>
    rw [writeEntries_cons, h e]
    rfl

/-- R175: the refusals that a table of entries of `len` octets shares with every other. -/
theorem tableWrite_refusals {f : ε → List Byte} {len : Nat} (hlen : 0 < len) (hf : ∀ e, (f e).length = len)
    (hc : exec c s = .next (request kindTableWrite tag [0] (serveWrite w first count es) s)) (h : Ready s) :
    (count = 0 ∨ (es.flatMap f).length ≠ count.toNat * len →
        exec c s = .next { s with lu := answered s kindTableWrite tag .badLength [0] })
      ∧ (count ≠ 0 → (es.flatMap f).length = count.toNat * len → first.toNat < w.first ∨ w.last < first.toNat →
        exec c s = .next { s with lu := answered s kindTableWrite tag .badIndex [0] })
      ∧ (count ≠ 0 → (es.flatMap f).length = count.toNat * len → w.first ≤ first.toNat → first.toNat ≤ w.last →
        s.store.state = .writing →
        exec c s = .next { s with lu := answered s kindTableWrite tag .busy [0] }) := by
  have refused {code : ResultCode} (hb : serveWrite w first count es (s.withLu (frameTaken s))
      = refuse code [0] (s.withLu (frameTaken s))) :
      exec c s = .next { s with lu := answered s kindTableWrite tag code [0] } := by
    rw [hc, request_refused h hb]
    rfl
  have counted (h : (es.flatMap f).length = count.toNat * len) : es.length = count.toNat := by
    rw [Laws.flatMap_length hf] at h
    exact Nat.eq_of_mul_eq_mul_right hlen h
  refine ⟨fun hn => refused (if_pos (hn.imp_right fun k kl => k ?_)), fun hn hl hi =>
    refused (serveWrite_refused hn (counted hl) fun e => judgeEntry_outside e hi), fun hn hl h1 h2 hw =>
    refused (serveWrite_refused hn (counted hl) fun e => judgeEntry_writing e h1 h2 hw)⟩
  rw [Laws.flatMap_length hf, kl]

/-- R175: a write leaves what its entries in order leave. -/
theorem tableWrite_leaves (hw : w.Acting calmness)
    (hc : ∀ s, exec c s = .next (request kindTableWrite tag [0] (serveWrite w first count es) s)) (h : Ready s)
    (hp : PostsWait s) (hn : count ≠ 0) (hl : es.length = count.toNat) :
    let r := writeEntries w es first.toNat 0 { s with lu := frameTaken s }
    exec c s = .next { r.state with lu := replied r.state.lu kindTableWrite tag r.code [BitVec.ofNat 8 r.written] } := by
  have served : serveWrite w first count es (s.withLu (frameTaken s)) =
      ((writeEntries w es first.toNat 0 (s.withLu (frameTaken s))).state,
        some (.plain (writeEntries w es first.toNat 0 (s.withLu (frameTaken s))).code
          [natOctet (writeEntries w es first.toNat 0 (s.withLu (frameTaken s))).written])) :=
    if_neg fun k => k.elim hn fun k => k hl
  have settled : Settled (writeEntries w es first.toNat 0 (s.withLu (frameTaken s))).state :=
    Acts.settled (acts_writeEntries hw es _ 0 _) h.2.2.2 hp
  rw [hc, request_answered h served settled]
  rfl

end Requests

/-- Settles O26: each table's write is served by the rules of its table, whose octets count its entries. -/
theorem tableWriteRefusals : Obligations.TableWriteRefusals := by
  intro c tag id first count octets s h hframe
  have other {kind t : Byte} {payload : List Byte} (hk : kind ≠ kindTableWrite)
      (he : some (linkFrame kind t payload) = some (linkFrame kindTableWrite tag (id :: first :: count :: octets))) :
      False := hk (linkFrame_inj (Option.some.inj he)).1
  cases c with
  | tableWriteCycle t f n es =>
    obtain ⟨-, rfl, hp⟩ := linkFrame_inj (Option.some.inj hframe)
    cases hp
    exact ⟨_, rfl, by decide, tableWrite_refusals (w := cycleRules) (len := 11) (by decide) Laws.slotEntryOctets_length rfl h⟩
  | tableWriteNode t f n es =>
    obtain ⟨-, rfl, hp⟩ := linkFrame_inj (Option.some.inj hframe)
    cases hp
    exact ⟨_, rfl, by decide, tableWrite_refusals (w := nodeRules) (len := 12) (by decide) Laws.nodeEntryOctets_length rfl h⟩
  | tableWriteSection t f n es =>
    obtain ⟨-, rfl, hp⟩ := linkFrame_inj (Option.some.inj hframe)
    cases hp
    exact ⟨_, rfl, by decide, tableWrite_refusals (w := sectionRules) (len := 28) (by decide) Laws.sectionEntryOctets_length rfl h⟩
  | tableWriteLoop t f n es =>
    obtain ⟨-, rfl, hp⟩ := linkFrame_inj (Option.some.inj hframe)
    cases hp
    exact ⟨_, rfl, by decide, tableWrite_refusals (w := loopRules) (len := 26) (by decide) Laws.loopEntryOctets_length rfl h⟩
  | tableWriteDemand t f n es =>
    obtain ⟨-, rfl, hp⟩ := linkFrame_inj (Option.some.inj hframe)
    cases hp
    exact ⟨_, rfl, by decide, tableWrite_refusals (w := demandRules) (len := 2) (by decide) (fun _ => rfl) rfl h⟩
  | tableWriteHold t f n es =>
    obtain ⟨-, rfl, hp⟩ := linkFrame_inj (Option.some.inj hframe)
    cases hp
    exact ⟨_, rfl, by decide, tableWrite_refusals (w := holdRules) (len := 2) (by decide) (fun _ => rfl) rfl h⟩
  | tableWriteAlarmMap t f n es =>
    obtain ⟨-, rfl, hp⟩ := linkFrame_inj (Option.some.inj hframe)
    cases hp
    exact ⟨_, rfl, by decide, tableWrite_refusals (w := alarmRules) (len := 1) (by decide) (fun _ => rfl) rfl h⟩
  | tableWriteLinkSet t f n es =>
    obtain ⟨-, rfl, hp⟩ := linkFrame_inj (Option.some.inj hframe)
    cases hp
    exact ⟨_, rfl, by decide, tableWrite_refusals (w := linkSetRules) (len := 9) (by decide) Laws.linkSetEntryOctets_length rfl h⟩
  | demand | tableRead | pass | start | stop | reports | resume | hold | reviveNode | reviveLane | flush | ack
  | resetField | resetLink | resetFull | save | clear => exact (other (by decide) hframe).elim
  | powerOnReset | startupReadEnd | plantTimeTick | receiverOctet | gapTimerExpiry | idleTimeEnd | commandFrameSent
  | responseTimerExpiry | replyOctet | replyGapExpiry | replyWindowExpiry | waitTimerExpiry | laneProbeCountdownEnd
  | nodeProbeCountdownEnd | minorCycleTimerZero | intervalTimerExpiry | flushTimerExpiry | storeWriteEnd
  | linkTimerExpiry | fillTimerExpiry | transmitFrameEnd => cases hframe

/-- Settles O28: each table's write leaves what its entries leave, by `tableWrite_leaves`. -/
theorem tableWritesApplyInOrder : Obligations.TableWritesApplyInOrder := by
  intro tag first count s h hp hn leaves
  exact ⟨fun es hl => tableWrite_leaves cycleRules_acting (fun _ => rfl) h hp hn hl,
    fun es hl => tableWrite_leaves nodeRules_acting (fun _ => rfl) h hp hn hl,
    fun es hl => tableWrite_leaves sectionRules_acting (fun _ => rfl) h hp hn hl,
    fun es hl => tableWrite_leaves loopRules_acting (fun _ => rfl) h hp hn hl,
    fun es hl => tableWrite_leaves demandRules_acting (fun _ => rfl) h hp hn hl,
    fun es hl => tableWrite_leaves holdRules_acting (fun _ => rfl) h hp hn hl,
    fun es hl => tableWrite_leaves alarmRules_acting (fun _ => rfl) h hp hn hl,
    fun es hl => tableWrite_leaves linkSetRules_acting (fun _ => rfl) h hp hn hl⟩

end Sys2Proof.Machine
end

section
/-! PROOFS. The entries of the tables one by one (R172, R176): what an accepted entry keeps octet for octet, and what it
changes. -/

namespace Sys2Proof.Machine

/-! ## Octets and the values they name -/

section Octets
variable {α : Type} {values : List α}

theorem valueOf_isSome {b : Byte} (h : b.toNat < values.length) : ∃ x, valueOf values b = some x :=
  ⟨_, List.getElem?_eq_getElem h⟩

theorem lt_of_valueOf {b : Byte} {x : α} (h : valueOf values b = some x) : b.toNat < values.length :=
  (List.getElem?_eq_some_iff.mp h).1

/-- The value that an octet names has that octet as its code. -/
theorem codeIn_valueOf [DecidableEq α] (hn : values.Nodup) {b : Byte} {x : α} (h : valueOf values b = some x) :
    codeIn values x = b := by
  obtain ⟨hlt, hx⟩ := List.getElem?_eq_some_iff.mp h
  unfold codeIn
  rw [← hx, hn.idxOf_getElem _ hlt, BitVec.ofNat_toNat, BitVec.setWidth_eq]

theorem natOctet_toNat (b : Byte) : natOctet b.toNat = b := by
  rw [natOctet, BitVec.ofNat_toNat, BitVec.setWidth_eq]

theorem natOctets_toNat (w : Word) : natOctets w.toNat = wordOctets w := by
  rw [natOctets, BitVec.ofNat_toNat, BitVec.setWidth_eq]

theorem intOctets_toInt (w : Word) : intOctets w.toInt = wordOctets w := by
  rw [intOctets, BitVec.ofInt_toInt]

/-- R172: a list that names its nodes reads back behind its count, whose unused places hold 0. -/
theorem listOctets_readNodeList {count : Byte} {room : List Byte} {xs : List Nat} (h : readNodeList count room = some xs)
    (hz : ∀ b ∈ room.drop count.toNat, b = 0) : listOctets room.length xs = count :: room := by
  unfold readNodeList at h
  dsimp only at h
  split at h
  case isFalse => cases h
  next hok =>
    cases h
    have fits : count.toNat ≤ room.length := hok.1
    unfold listOctets
    rw [List.length_map, List.length_take, Nat.min_eq_left fits, natOctet_toNat]
    congr 1
    refine List.ext_getElem (by simp) fun i h1 h2 => ?_
    rw [List.getElem_map, List.getElem_range, List.getD_eq_getElem?_getD, List.getElem?_map]
    by_cases hi : i < count.toNat
    · rw [List.getElem?_take_of_lt hi, List.getElem?_eq_getElem h2]
      exact natOctet_toNat _
    · rw [List.getElem?_take_eq_none (by omega)]
      refine (hz _ ?_).symm
      rw [List.mem_iff_getElem]
      exact ⟨i - count.toNat, by rw [List.length_drop]; omega, by rw [List.getElem_drop]; congr 1; omega⟩

end Octets

/-! ## Accepted entries read back (R172) -/

section ReadBack

theorem slotOctets_of_entry {e : SlotEntry} {x : Slot} (h : slotOfEntry e = some x) : slotOctets x = slotEntryOctets e := by
  unfold slotOfEntry at h
  split at h
  case h_2 => cases h
  next k hk =>
    split at h
    case isFalse => cases h
    cases h
    unfold slotOctets slotEntryOctets
    rw [codeIn_valueOf (by decide) hk]

theorem nodeOctets_of_entry {e : NodeEntry} {c : NodeCfg} (h : nodeOfEntry e = some c) : nodeOctets c = nodeEntryOctets e := by
  unfold nodeOfEntry at h
  split at h
  case h_2 => cases h
  next k l r hk hl hr =>
    split at h
    case isFalse => cases h
    cases h
    unfold nodeOctets nodeEntryOctets
    simp only [codeIn_valueOf (by decide) hk, codeIn_valueOf (by decide) hl, codeIn_valueOf (by decide) hr,
      intOctets_toInt, natOctet_toNat]

theorem linkSetOctets_of_entry {e : LinkSetEntry} {c : LinkSet} (h : linkSetOfEntry e = some c) :
    linkSetOctets c = linkSetEntryOctets e := by
  unfold linkSetOfEntry at h
  split at h
  case h_2 => cases h
  next fr fl pa pr ah hfr hfl hpa hpr hah =>
    split at h
    case isFalse => cases h
    cases h
    unfold linkSetOctets linkSetEntryOctets
    simp only [codeIn_valueOf (by decide) hfr, codeIn_valueOf (by decide) hfl, codeIn_valueOf (by decide) hpa,
      codeIn_valueOf (by decide) hpr, codeIn_valueOf (by decide) hah, natOctet_toNat]

theorem sectionOctets_of_entry {e : SectionEntry} {c : SectionCfg} (h : sectionOfEntry e = some c)
    (hz : ∀ b ∈ e.fans.toList.drop e.fanCount.toNat, b = 0) : sectionOctets c = sectionEntryOctets e := by
  unfold sectionOfEntry at h
  split at h
  case h_2 => cases h
  next on fans hon hfans =>
    split at h
    case isFalse => cases h
    cases h
    have list : listOctets 4 fans = e.fanCount :: e.fans.toList := by
      have := listOctets_readNodeList hfans hz
      rwa [Vector.length_toList] at this
    unfold sectionOctets sectionEntryOctets
    simp only [codeIn_valueOf (by decide) hon, list, natOctet_toNat, natOctets_toNat]
    rfl

theorem loopOctets_of_entry {e : LoopEntry} {c : LoopCfg} (h : loopOfEntry e = some c)
    (hz : ∀ b ∈ e.pumps.toList.drop e.pumpCount.toNat, b = 0) : loopOctets c = loopEntryOctets e := by
  unfold loopOfEntry at h
  split at h
  case h_2 => cases h
  next pumps hpumps =>
    split at h
    case isFalse => cases h
    cases h
    have list : listOctets 2 pumps = e.pumpCount :: e.pumps.toList := by
      have := listOctets_readNodeList hpumps hz
      rwa [Vector.length_toList] at this
    unfold loopOctets loopEntryOctets
    simp only [list, natOctet_toNat, natOctets_toNat, intOctets_toInt, List.append_assoc, List.cons_append,
      List.nil_append]

/-- Settles O25: each record has the octets of the entry it was read from. -/
theorem entriesReadBackAsWritten : Obligations.EntriesReadBackAsWritten :=
  ⟨fun _ _ => slotOctets_of_entry, fun _ _ => nodeOctets_of_entry, fun _ _ => sectionOctets_of_entry,
    fun _ _ => loopOctets_of_entry, fun _ _ h => codeIn_valueOf (by decide) h, fun _ _ => linkSetOctets_of_entry⟩

end ReadBack

/-! ## TABLE_READ (R177) -/

section Reads
variable {s : State}

theorem exec_tableRead (tag table first count : Byte) (s : State) :
    exec (.tableRead tag table first count) s
      = .next (request kindTableRead tag [table, first, 0] (serveRead table first count) s) := rfl

/-- TABLE 9-2: the ids that name a table. -/
theorem readRules_eq_none (id : Byte) : readRules id = none ↔ id.toNat = 0 ∨ 12 < id.toNat := by
  constructor
  · intro h
    by_contra hn
    have bounds : 1 ≤ id.toNat ∧ id.toNat ≤ 12 := by omega
    generalize hk : id.toNat = k at bounds
    obtain ⟨h1, h12⟩ := bounds
    unfold readRules at h
    rw [hk] at h
    interval_cases k <;> cases h
  · intro h
    unfold readRules
    split <;> first | rfl | omega

theorem listOctets_length (room : Nat) (xs : List Nat) : (listOctets room xs).length = room + 1 := by
  simp [listOctets]

theorem wordOctets_length (w : Word) : (wordOctets w).length = 2 := rfl
theorem optIntOctets_length (x : Option Int) : (optIntOctets x).length = 3 := by cases x <;> rfl
theorem optNatOctets_length (n : Option Nat) : (optNatOctets n).length = 3 := by cases n <;> rfl
theorem optOctet_length (b : Option Byte) : (optOctet b).length = 2 := by cases b <;> rfl
theorem statusOctets_length (x : Option Status) : (statusOctets x).length = 2 := by cases x <;> rfl
theorem demandOctets_length (d : Option Nat) : (demandOctets d).length = 2 := by cases d <;> rfl

/-- TABLE 9-2: every entry of a table has the length of its table. -/
theorem readRules_length {id : Byte} {r : ReadRules} (h : readRules id = some r) (i : Nat) : (r.entry s i).length = r.len := by
  unfold readRules at h
  split at h <;> cases h
  case h_1 => rfl
  case h_2 => rfl
  case h_3 =>
    simp only [sectionOctets, List.length_append, listOctets_length]
    rfl
  case h_4 =>
    simp only [loopOctets, List.length_append, listOctets_length]
    rfl
  case h_5 => exact demandOctets_length _
  case h_6 => rfl
  case h_7 => rfl
  case h_8 => rfl
  case h_9 =>
    simp only [nodeStateOctets, List.length_append, optIntOctets_length, optNatOctets_length, statusOctets_length]
    rfl
  case h_10 => rfl
  case h_11 =>
    simp only [loopStateOctets, List.length_append, optIntOctets_length]
    rfl
  case h_12 =>
    simp only [partStateOctets, partGroup, sequencerGroup, arbiterGroup, List.length_append, optOctet_length]
    rfl

/-- Settles O24: the refusals of R177 and the entries returned. -/
theorem tableRead : Obligations.TableRead := by
  intro tag table first count s h
  have refused {code : ResultCode}
      (hb : serveRead table first count (s.withLu (frameTaken s)) = refuse code [table, first, 0] (s.withLu (frameTaken s))) :
      exec (.tableRead tag table first count) s
        = .next { s with lu := answered s kindTableRead tag code [table, first, 0] } := by
    rw [exec_tableRead, request_refused h hb]
    rfl
  refine ⟨readRules_eq_none table, fun hr => refused ?_, fun r hr =>
    ⟨fun hi => refused ?_, fun h1 h2 => ?_, readRules_length hr⟩⟩
  · unfold serveRead
    rw [hr]
  · unfold serveRead
    rw [hr]
    exact if_pos hi
  · have served : serveRead table first count (s.withLu (frameTaken s)) =
        (s.withLu (frameTaken s), some (.plain .ok
          ([table, first, natOctet (entriesReturned r first.toNat count.toNat)]
            ++ (List.range' first.toNat (entriesReturned r first.toNat count.toNat)).flatMap fun i =>
              r.entry (s.withLu (frameTaken s)) i))) := by
      unfold serveRead
      rw [hr]
      exact if_neg (by omega)
    rw [exec_tableRead, request_answered h served h.2.2.2]
    rfl

end Reads

/-! ## CYCLE, DEMAND, HOLD, ALARM_MAP and LINK_SET entries -/

section Plain
variable {s : State}

theorem octetIn_iff {lo hi : Nat} {b : Byte} : octetIn lo hi b = true ↔ lo ≤ b.toNat ∧ b.toNat ≤ hi := by
  simp [octetIn]

/-- R95, R96: the fields that a kind of slot reads lie within their values. -/
abbrev SlotOutside (e : SlotEntry) : Prop :=
  let k := e.kind.toNat
  10 < k ∨ ((k = 0 ∨ k = 4) ∧ e.time = 0)
    ∨ (1 ≤ k ∧ k ≤ 3 ∧ (e.node.toNat = 0 ∨ 48 < e.node.toNat ∨ 1 < e.frame.toNat ∨ 1 < e.lane.toNat
        ∨ 3 < e.retries.toNat ∨ 1 < e.alternate.toNat))

/-- R96: an entry is refused just where a field its kind reads is outside its values. -/
theorem slotOfEntry_eq_none (e : SlotEntry) : slotOfEntry e = none ↔ SlotOutside e := by
  have fields : (octetIn 1 48 e.node && octetIn 0 1 e.frame && octetIn 0 1 e.lane && octetIn 0 3 e.retries
      && octetIn 0 1 e.alternate) = true ↔ ¬ (e.node.toNat = 0 ∨ 48 < e.node.toNat ∨ 1 < e.frame.toNat
        ∨ 1 < e.lane.toNat ∨ 3 < e.retries.toNat ∨ 1 < e.alternate.toNat) := by
    simp only [Bool.and_eq_true, octetIn_iff]
    omega
  have judged {k : SlotKind} (hk : valueOf slotKinds e.kind = some k) :
      slotOfEntry e = none ↔ ¬ slotFieldsOk k e = true := by
    unfold slotOfEntry
    rw [hk]
    dsimp only
    split <;> simp_all
  unfold SlotOutside
  by_cases hlt : e.kind.toNat < 11
  · generalize hk : e.kind.toNat = k at hlt
    have named : valueOf slotKinds e.kind = slotKinds[k]? := by rw [valueOf, hk]
    rcases (show (1 ≤ k ∧ k ≤ 3) ∨ k = 0 ∨ (4 ≤ k ∧ k ≤ 10) by omega) with ⟨lo, hi⟩ | rfl | ⟨lo, hi⟩
    · interval_cases k
      all_goals
        rw [judged named]
        unfold slotFieldsOk
        dsimp only
        rw [fields]
        omega
    · rw [judged named]
      unfold slotFieldsOk
      simp
    · interval_cases k
      all_goals
        rw [judged named]
        unfold slotFieldsOk
        simp
  · have unnamed : valueOf slotKinds e.kind = none := valueOf_eq_none (by rw [slotKinds]; simp; omega)
    unfold slotOfEntry
    rw [unnamed]
    simp
    omega

theorem slot_inRange {i : Nat} (h : i ≤ 255) (hs : s.store.state ≠ .writing)
    (hw : s.seq.state = .idle ∨ s.seq.state = .halted) (e : SlotEntry) :
    judgeEntry cycleRules i e s = match applySlot i e s with
      | some t => .inr t
      | none => .inl .badValue := by
  refine judgeEntry_applied e (Nat.zero_le i) h hs fun _ => ?_
  unfold walking
  rcases hw with hw | hw <;> rw [hw] <;> rfl

/-- Settles O29: an entry that reads is kept, and one outside its values is refused. -/
theorem cycleEntryWritten : Obligations.CycleEntryWritten := by
  intro i e s hi hs k outside
  refine ⟨judgeEntry_walking e (Nat.zero_le i) hi rfl, fun hw => ⟨fun ho => ?_, fun ho => ?_⟩⟩
  · rw [slot_inRange hi hs hw, applySlot, (slotOfEntry_eq_none e).mpr ho]
  · have reads : slotOfEntry e ≠ none := fun hn => ho ((slotOfEntry_eq_none e).mp hn)
    obtain ⟨x, hx⟩ := Option.ne_none_iff_exists'.mp reads
    refine ⟨x, slotOctets_of_entry hx, ?_⟩
    rw [slot_inRange hi hs hw, applySlot, hx]
    rfl

theorem setDemand_of_pos {a : Nat} (h : 1 ≤ a) (d : Option Nat) :
    s.setDemand a d = s.withDemand (s.demand.setIfInBounds (a - 1) d) := if_neg (by omega)

theorem setHold_of_pos {a : Nat} (h : 1 ≤ a) (v : Nat) :
    s.setHold a v = s.withCfg { s.cfg with hold := s.cfg.hold.setIfInBounds (a - 1) v } := if_neg (by omega)

theorem setNode_of_pos {a : Nat} (h : 1 ≤ a) (n : NodeState) :
    s.setNode a n = s.withNodes (s.nodes.setIfInBounds (a - 1) n) := if_neg (by omega)

theorem driveLines_unit (s : State) : driveLines s = s.withEu (unitWith s s.eu.flags) := by
  unfold driveLines unitWith
  split <;> rfl

/-- R71, R126, R143, R163: a LINK_SET entry is refused just where a field is outside its values. -/
theorem linkSetOfEntry_eq_none (e : LinkSetEntry) : linkSetOfEntry e = none ↔
    e.responseTimeout.toNat < 10 ∨ e.probeInterval = 0 ∨ 1 < e.frostLevel.toNat ∨ 1 < e.flushLevel.toNat
      ∨ 1 < e.passLevel.toNat ∨ 1 < e.probeLevel.toNat ∨ 1 < e.autoHold.toNat ∨ e.linkTimeout = 0
      ∨ e.fillInterval = 0 := by
  have level {α : Type} {values : List α} {b : Byte} (hv : values.length = 2) (h : ∃ x, valueOf values b = some x) :
      b.toNat ≤ 1 := by
    obtain ⟨x, hx⟩ := h
    have := lt_of_valueOf hx
    omega
  have zero (b : Byte) : b = 0 ↔ b.toNat = 0 := BitVec.toNat_inj.symm
  simp only [zero]
  unfold linkSetOfEntry
  split
  next fr fl pa pr ah hfr hfl hpa hpr hah =>
    have h1 := level rfl ⟨_, hfr⟩
    have h2 := level rfl ⟨_, hfl⟩
    have h3 := level rfl ⟨_, hpa⟩
    have h4 := level rfl ⟨_, hpr⟩
    have h5 := level rfl ⟨_, hah⟩
    simp only [octetIn_iff]
    split
    next ok => exact ⟨nofun, fun k => by omega⟩
    next bad => exact ⟨fun _ => by omega, fun _ => rfl⟩
  next none_ =>
    refine ⟨fun _ => ?_, fun _ => rfl⟩
    by_contra h
    obtain ⟨fr, hfr⟩ := valueOf_isSome (values := levels) (b := e.frostLevel) (show _ < 2 by omega)
    obtain ⟨fl, hfl⟩ := valueOf_isSome (values := levels) (b := e.flushLevel) (show _ < 2 by omega)
    obtain ⟨pa, hpa⟩ := valueOf_isSome (values := levels) (b := e.passLevel) (show _ < 2 by omega)
    obtain ⟨pr, hpr⟩ := valueOf_isSome (values := levels) (b := e.probeLevel) (show _ < 2 by omega)
    obtain ⟨ah, hah⟩ := valueOf_isSome (values := autoHolds) (b := e.autoHold) (show _ < 2 by omega)
    exact none_ fr fl pa pr ah hfr hfl hpa hpr hah

/-- Settles O33: each entry of the plain tables, by its range and its table. -/
theorem plainTableEntries : Obligations.PlainTableEntries := by
  intro s hs
  have unguarded {w : WriteRules Word} (hg : w.walkGuard = false) {a : Nat} (h1 : w.first ≤ a) (h2 : a ≤ w.last)
      (x : Word) : judgeEntry w a x s = match w.apply a x s with
        | some t => .inr t
        | none => .inl .badValue := judgeEntry_applied x h1 h2 hs fun k => by rw [hg] at k; cases k
  refine ⟨fun a w h1 h48 => ?_, fun n b hn => ⟨fun line hl => ?_, fun hb => ?_⟩, fun e => ?_⟩
  · rw [unguarded (w := demandRules) rfl h1 h48, unguarded (w := holdRules) rfl h1 h48]
    unfold demandRules holdRules applyDemand applyHold unsetMarker
    dsimp only
    refine ⟨fun hk => ?_, fun hk => ?_⟩
    · have marker (h : w.toNat ≤ 1000) : w ≠ 0xFFFF := fun k => by rw [k] at h; exact absurd h (by decide)
      simp only [hk, if_true]
      refine ⟨fun hw => ?_, fun hw => ?_, fun hw hbig => ?_, fun hw => ?_, fun hw => ?_⟩
      · rw [if_pos hw, setDemand_of_pos h1]
        rfl
      · rw [if_neg (marker hw), if_pos hw, setDemand_of_pos h1]
        rfl
      · rw [if_neg hw, if_neg (by omega)]
      · rw [if_neg (by omega), setHold_of_pos h1]
        rfl
      · rw [if_pos hw]
    · simp only [hk, Bool.false_eq_true, if_false]
      refine ⟨?_, ?_⟩
      · by_cases hw : w = 0xFFFF
        · rw [if_pos hw, if_pos hw]
        · rw [if_neg hw, if_neg hw]
      · by_cases hw : w = 0
        · rw [if_neg (by rw [hw]; decide), if_pos hw, if_pos hw]
        · rw [if_neg hw, if_neg hw, ite_self]
  · rw [judgeEntry_applied b (Nat.zero_le n) hn hs (absurd · (by decide))]
    show (match applyAlarm n b s with | some t => _ | none => _) = _
    unfold applyAlarm
    rw [show valueOf alarmLines b = some line from hl]
    dsimp only
    rw [writeAlarm, driveLines_unit]
    rfl
  · rw [judgeEntry_applied b (Nat.zero_le n) hn hs (absurd · (by decide))]
    show (match applyAlarm n b s with | some t => _ | none => _) = _
    unfold applyAlarm
    rw [valueOf_eq_none (values := alarmLines) hb]
  · have judged : judgeEntry linkSetRules 0 e s = match applyLinkSet e s with
        | some t => .inr t
        | none => .inl .badValue := judgeEntry_applied e (Nat.le_refl 0) (Nat.le_refl 0) hs (absurd · (by decide))
    refine ⟨fun ho => ?_, fun ho => ?_⟩
    · rw [judged, applyLinkSet, (linkSetOfEntry_eq_none e).mpr ho]
    · have reads : linkSetOfEntry e ≠ none := fun hn => ho ((linkSetOfEntry_eq_none e).mp hn)
      obtain ⟨c, hc⟩ := Option.ne_none_iff_exists'.mp reads
      refine ⟨c, linkSetOctets_of_entry hc, ?_⟩
      rw [judged, applyLinkSet, hc]
      rfl

end Plain

end Sys2Proof.Machine
end

section
/-! PROOFS. The configuration store and the start-up on the defaults (R149 to R157). -/

namespace Sys2Proof.Machine

/-! ## A start-up that finds no valid image (R157) -/

section Defaults
variable {s : State}

theorem exec_startupReadEnd (read : ReadBack) (s : State) :
    exec (.startupReadEnd read) s = .next (finish (startupRead read s)) := rfl

/-- R157: the part as it leaves STARTING on the defaults, with room for the report of its STORE_FAULT. -/
theorem startFromDefaults_room (image : ImageState) (cause : StoreCause) (h : s.lu.reports.length < 64) :
    startFromDefaults image cause s = { s with
      cfg := defaultTables, loop := .powerOn 0, store := { s.store with state := .idle, image := image },
      eu := unitAfter { s with cfg := defaultTables, store := { s.store with state := .idle } } .storeFault,
      lu := { s.lu with stream := .hold, reports := s.lu.reports ++ [eventNow s .storeFault .none cause.code] } } := by
  have room : RoomForReports ((((s.withCfg defaultTables).withLoop (.powerOn 0)).withStore
      { s.store with state := .idle, image := image }).withLu { s.lu with stream := .hold }) 1 := .inr h
  unfold startFromDefaults
  exact raise_room (by decide) room

/-- R157: STARTING ends on the defaults with an image that is not valid. -/
theorem exec_startup_defaults {read : ReadBack} {found : Option StoredImage} {image : ImageState} {cause : StoreCause}
    (hs : s.Starting) (hq : StartingQuiet s) (hr : s.lu.reports.length < 64) (hf : readBack s.store.stored read = found)
    (he : endStarting found s = startFromDefaults image cause (s.withStore { s.store with stored := found })) :
    exec (.startupReadEnd read) s = .next { s with
      cfg := defaultTables, store := { s.store with state := .idle, image := image, stored := found },
      eu := unitAfter { s with cfg := defaultTables, store := { s.store with state := .idle } } .storeFault,
      lu := sendIfFree { s.lu with stream := .hold,
                                   reports := s.lu.reports ++ [eventNow s .storeFault .none cause.code] } } := by
  have quiet : FieldQuiet s := hq hs
  have settled := quiet.settled
  obtain ⟨-, -, -, hloop, -⟩ := quiet
  have ended : startupRead read s = startFromDefaults image cause (s.withStore { s.store with stored := found }) := by
    unfold startupRead
    rw [if_pos hs, hf, he]
  rw [exec_startupReadEnd, ended, startFromDefaults_room image cause (by exact hr)]
  generalize heu : unitAfter _ EventClass.storeFault = eu
  rw [← hloop, finish_of_settled (by exact settled), ← heu]
  rfl

theorem startup_invalid {read : ReadBack} {image : StoredImage} (hs : s.Starting) (hq : StartingQuiet s)
    (hr : s.lu.reports.length < 64) (hf : readBack s.store.stored read = some image) (hi : imageChecks image = false) :
    exec (.startupReadEnd read) s = .next { s with
      cfg := defaultTables, store := { s.store with state := .idle, image := .invalid, stored := some image },
      eu := unitAfter { s with cfg := defaultTables, store := { s.store with state := .idle } } .storeFault,
      lu := sendIfFree { s.lu with stream := .hold,
                                   reports := s.lu.reports ++ [eventNow s .storeFault .none 2] } } :=
  exec_startup_defaults (cause := .check) hs hq hr hf (if_neg (by rw [hi]; nofun))

theorem startup_blank {read : ReadBack} (hs : s.Starting) (hq : StartingQuiet s) (hr : s.lu.reports.length < 64)
    (hf : readBack s.store.stored read = none) :
    exec (.startupReadEnd read) s = .next { s with
      cfg := defaultTables, store := { s.store with state := .idle, image := .blank, stored := none },
      eu := unitAfter { s with cfg := defaultTables, store := { s.store with state := .idle } } .storeFault,
      lu := sendIfFree { s.lu with stream := .hold,
                                   reports := s.lu.reports ++ [eventNow s .storeFault .none 3] } } :=
  exec_startup_defaults (cause := .blank) hs hq hr hf rfl

/-- R182: an event that has been raised has its flag set. -/
theorem unitAfter_flag (s : State) (c : EventClass) : (unitAfter s c).flags.getLsbD c.index = true := by
  have flags : (unitAfter s c).flags = s.eu.flags ||| flagBit c := by
    unfold unitAfter unitWith
    split <;> rfl
  rw [flags, BitVec.getLsbD_or]
  cases c <;> simp +decide [flagBit]

/-- A read where no valid image is held finds an invalid one or none. -/
theorem readBack_invalid {held : Option StoredImage} (read : ReadBack) (h : holdsValid held = false) :
    readBack held read = none ∨ ∃ image, readBack held read = some image ∧ imageChecks image = false := by
  have invalid := holdsValid_readBack read h
  cases hr : readBack held read with
  | none => exact .inl rfl
  | some image => exact .inr ⟨image, rfl, by rwa [hr] at invalid⟩

/-- Settles O6: the two reads that bring the defaults, and the steps that keep the store sound. -/
theorem startupOnDefaults : Obligations.StartupOnDefaults := by
  refine ⟨fun read s hs hq hr => ⟨fun image hf hi => startup_invalid hs hq hr hf (imageChecks_eq_false hi),
    startup_blank hs hq hr, fun hv => ?_⟩, fun _ _ _ => holdsValid_of_exec, fun _ _ => storeSound_step⟩
  have seq : s.seq = .powerOn := by
    obtain ⟨-, -, -, -, -, hseq, -⟩ := hq hs
    exact hseq
  rcases readBack_invalid read hv with hf | ⟨image, hf, hi⟩
  · exact ⟨_, startup_blank hs hq hr hf, rfl, rfl, .inr rfl, rfl, seq, unitAfter_flag _ .storeFault⟩
  · exact ⟨_, startup_invalid hs hq hr hf hi, rfl, rfl, .inl rfl, hi, seq, unitAfter_flag _ .storeFault⟩

end Defaults

/-! ## SAVE and the end of writing (R150 to R153) -/

section Save
variable {s : State}

theorem exec_save (tag : Byte) (s : State) : exec (.save tag) s = .next (request kindCommand tag [codeSave] serveSave s) :=
  rfl

theorem exec_storeWriteEnd (read : ReadBack) (s : State) :
    exec (.storeWriteEnd read) s = .next (finish (storeWritten read s)) := rfl

/-- Settles O7: a SAVE by the store's state, and the start-up after one that was cut off. -/
theorem saveByStoreState : Obligations.SaveByStoreState := by
  refine ⟨fun tag s hup hroom hset => ⟨fun hi => ?_, fun hw => ?_, fun hr => ?_⟩, fun pin read s hw hn => ?_⟩
  · have ready : Ready s := ⟨by rw [State.Starting, hi]; nofun, hup, hroom, hset⟩
    have served : serveSave (s.withLu (frameTaken s)) = accept codeSave (beginSave (s.withLu (frameTaken s))) := by
      unfold serveSave
      rw [show (s.withLu (frameTaken s)).store.state = _ from hi]
    rw [exec_save, request_answered ready served (by exact hset)]
    rfl
  · have ready : Ready s := ⟨by rw [State.Starting, hw]; nofun, hup, hroom, hset⟩
    have served : serveSave (s.withLu (frameTaken s)) = refuse .notNow [codeSave] (s.withLu (frameTaken s)) := by
      unfold serveSave
      rw [show (s.withLu (frameTaken s)).store.state = _ from hw]
    rw [exec_save, request_refused ready served]
    rfl
  · rw [exec_save, request_starting hr hup hroom hset]
    rfl
  · have reset := powerOnReset pin s
    generalize hu : ({ State.reset with
        store := { state := .reading, image := s.store.image, stored := s.store.stored, copy := none },
        ratePin := pin, rate := if pin then .high460800 else .low115200, pending := s.pending } : State) = u at reset
    have starting : u.Starting := by rw [← hu]
    have quiet : StartingQuiet u := by
      rw [← hu]
      exact fun _ => fieldQuiet_powerOn pin s
    have invalid : holdsValid u.store.stored = false := by
      rw [← hu]
      show holdsValid s.store.stored = false
      rw [hn]
      rfl
    have link : u.lu = State.reset.lu := by rw [← hu]
    have seq : u.seq = .powerOn := by rw [← hu]; rfl
    have room : u.lu.reports.length < 64 := by rw [link]; decide
    rcases readBack_invalid read invalid with hf | ⟨image, hf, hi⟩
    · refine ⟨u, _, reset, startup_blank starting quiet room hf, starting, rfl, .inr rfl, rfl, seq,
        unitAfter_flag _ .storeFault, ?_⟩
      dsimp only
      rw [link]
      rfl
    · refine ⟨u, _, reset, startup_invalid starting quiet room hf hi, starting, rfl, .inl rfl, hi, seq,
        unitAfter_flag _ .storeFault, ?_⟩
      dsimp only
      rw [link]
      rfl

/-- R152: a SAVE whose image reads back valid. -/
theorem endWriting_ok {image : Option StoredImage} (hm : writeMatches image = true) (h : RoomForReports s 1) :
    endWriting image s = { s with
      store := { state := .idle, image := .valid, stored := image, copy := none },
      lu := { s.lu with reports := reportsWith s [infoNow s .storeDone .none 0] } } := by
  have room : RoomForReports (s.withStore { state := .idle, image := .valid, stored := image, copy := none }) 1 := h
  unfold endWriting
  rw [if_pos hm]
  exact inform_room room

/-- R152: a SAVE that failed. -/
theorem endWriting_failed {image : Option StoredImage} (hm : writeMatches image = false) (h : RoomForReports s 2) :
    endWriting image s = { s with
      store := { state := .idle, image := .invalid, stored := image, copy := none },
      eu := unitAfter { s with store := { s.store with state := .idle } } .storeFault,
      lu := { s.lu with
        reports := reportsWith s [eventNow s .storeFault .none 1, infoNow s .storeDone .none 1] } } := by
  have room : RoomForReports (s.withStore { state := .idle, image := .invalid, stored := image, copy := none }) 1 :=
    RoomForReports.le h (by decide)
  unfold endWriting
  rw [if_neg (by rw [hm]; nofun), raise_room (by decide) room]
  generalize heu : unitAfter _ EventClass.storeFault = eu
  have after := roomForReports_after (s := s)
    (t := ((s.withStore { state := .idle, image := .invalid, stored := image, copy := none }).withEu eu).withReports
      (reportsWith s [eventNow s .storeFault .none 1])) (as := [eventNow s .storeFault .none 1]) (n := 1) h rfl rfl
  have reports := reportsWith_append (s := s)
    (t := ((s.withStore { state := .idle, image := .invalid, stored := image, copy := none }).withEu eu).withReports
      (reportsWith s [eventNow s .storeFault .none 1])) (as := [eventNow s .storeFault .none 1])
    [infoNow s .storeDone .none 1] rfl rfl
  refine (inform_room after).trans ?_
  rw [← heu]
  exact congrArg _ reports

theorem storeWritten_writing {read : ReadBack} {copy : ConfigTables} (hw : s.store.state = .writing)
    (hc : s.store.copy = some copy) :
    storeWritten read s = endWriting (readBack (some (imageOf copy)) read) s := by
  unfold storeWritten
  rw [if_pos hw, hc]
  rfl

/-- Settles O8: what reads back decides how the SAVE ends. -/
theorem storeWriteEnd : Obligations.StoreWriteEnd := by
  intro read s hset hr
  have ends {u : State} (hu : storeWritten read s = u) (hs : Settled u) :
      exec (.storeWriteEnd read) s = .next (u.withLu (sendIfFree u.lu)) := by
    rw [exec_storeWriteEnd, hu, finish_of_settled hs]
  refine ⟨fun copy hw hc => ⟨fun image hf hi => ?_, fun image hf hi => ?_, fun hf => ?_⟩, fun hw => ?_⟩
  · have valid : imageChecks image = true := beq_iff_eq.mpr hi
    have ended := endWriting_ok (image := some image) valid (hr.le (by decide))
    exact ends (((storeWritten_writing hw hc).trans (by rw [hf])).trans ended) hset
  · have invalid : imageChecks image = false := imageChecks_eq_false hi
    have ended := endWriting_failed (image := some image) invalid hr
    exact ends (((storeWritten_writing hw hc).trans (by rw [hf])).trans ended) hset
  · exact ends (((storeWritten_writing hw hc).trans (by rw [hf])).trans (endWriting_failed rfl hr)) hset
  · exact ends (if_neg hw) hset

end Save

end Sys2Proof.Machine
end

section
/-! PROOFS. The ends of timers that move little: an attempt as it goes on (R74, R75), the waits of the walk (R107, R114,
R116), and the probe countdowns (R85, R89). -/

namespace Sys2Proof.Machine

/-! ## An attempt as it goes on (R74, R75) -/

section Attempts
variable {s : State}

theorem exec_idleTimeEnd (s : State) : exec .idleTimeEnd s = .next (finish (idleOver s)) := rfl
theorem exec_commandFrameSent (s : State) : exec .commandFrameSent s = .next (finish (frameSent s)) := rfl
theorem exec_responseTimerExpiry (s : State) :
    exec .responseTimerExpiry s = .next (finish (failIn .waiting .noReply s)) := rfl
theorem exec_replyGapExpiry (s : State) : exec .replyGapExpiry s = .next (finish (failIn .receiving .badFrame s)) := rfl
theorem exec_replyWindowExpiry (s : State) :
    exec .replyWindowExpiry s = .next (finish (failIn .receiving .badFrame s)) := rfl
theorem exec_replyOctet (l : Lane) (b : Byte) (bad : Bool) (s : State) :
    exec (.replyOctet l b bad) s = .next (finish (hearOctet l b bad s)) := rfl

/-- Work on the Exchange Engine alone leaves a part at rest at rest. -/
theorem finish_withXe (h : AtRest s) (x : ExchangeEngine) : finish (s.withXe x) = s.withXe x :=
  finish_of_atRest (s := s.withXe x) h

theorem idleOver_flight {f : Flight} (h : s.xe.flight = some f) :
    idleOver s = s.withXe { s.xe with
      idleLeft := 0, flight := some (if f.phase = .idle then { f with phase := .sending } else f) } := by
  unfold idleOver
  rw [h]
  rfl

theorem frameSent_flight {f : Flight} (h : s.xe.flight = some f) :
    frameSent s = s.withXe { s.xe with
      flight := some (if f.phase = .sending then
        { f with phase := .waiting, frameLeft := 0, replyLeft := responseTimeout s } else f) } := by
  unfold frameSent
  rw [h]
  rfl

theorem withXe_flight {f : Option Flight} (h : s.xe.flight = f) : s.withXe { s.xe with flight := f } = s := by
  subst h
  rfl

theorem failIn_other {f : Flight} {p : Phase} (e : TransferError) (h : s.xe.flight = some f) (hp : f.phase ≠ p) :
    failIn p e s = s := by
  unfold failIn
  rw [h]
  exact if_neg hp

/-- R76: an octet on a lane that no attempt listens on is discarded. -/
theorem hearOctet_deaf {f : Flight} {l : Lane} (b : Byte) (bad : Bool) (h : s.xe.flight = some f)
    (hl : l ≠ f.lane ∨ f.phase = .idle ∨ f.phase = .sending) : hearOctet l b bad s = s := by
  have deaf : ¬ (f.lane = l ∧ f.listening = true) := by
    rintro ⟨rfl, hp⟩
    unfold Flight.listening at hp
    rcases hl with hl | hl | hl
    · exact hl rfl
    · rw [hl] at hp
      exact absurd hp (by decide)
    · rw [hl] at hp
      exact absurd hp (by decide)
  unfold hearOctet
  rw [h]
  exact if_neg deaf

theorem listening_of_phase {f : Flight} (h : f.phase = .waiting ∨ f.phase = .receiving) : f.listening = true := by
  unfold Flight.listening
  rcases h with h | h <;> rw [h] <;> rfl

/-- R75: an octet that the attempt hears without error. -/
theorem hearOctet_heard {f : Flight} (b : Byte) (h : s.xe.flight = some f)
    (hp : f.phase = .waiting ∨ f.phase = .receiving) : hearOctet f.lane b false s = takeReplyOctet f b s := by
  unfold hearOctet
  rw [h]
  exact (if_pos ⟨rfl, listening_of_phase hp⟩).trans (if_neg nofun)

/-- Settles O42: each row in its own phase and in the others. -/
theorem attemptProgress : Obligations.AttemptProgress := by
  intro s hs
  have stays : finish s = s := finish_of_atRest hs
  refine ⟨fun f hf => ⟨fun hp => ?_, fun hp => ?_, fun hp => ?_, fun hp => ?_, fun hp => ?_, fun hp => ?_,
    fun l b bad hl => ?_, fun b hp hn => ?_⟩, fun hf => ?_⟩
  · rw [exec_idleTimeEnd, idleOver_flight hf, if_pos hp, finish_withXe hs]
    rfl
  · rw [exec_commandFrameSent, frameSent_flight hf, if_pos hp, finish_withXe hs]
    rfl
  · rw [exec_idleTimeEnd, idleOver_flight hf, if_neg hp, ← hf, finish_withXe hs]
    rfl
  · rw [exec_commandFrameSent, frameSent_flight hf, if_neg hp, withXe_flight hf, stays]
  · rw [exec_responseTimerExpiry, failIn_other _ hf hp, stays]
  · rw [exec_replyGapExpiry, exec_replyWindowExpiry, failIn_other _ hf hp, stays]
    exact ⟨rfl, rfl⟩
  · rw [exec_replyOctet, hearOctet_deaf b bad hf hl, stays]
  · have short : ¬ (f.octets ++ [b]).length = 7 := by
      rw [List.length_append, List.length_singleton]
      omega
    rw [exec_replyOctet, hearOctet_heard b hf hp, takeReplyOctet]
    dsimp only
    rw [if_neg short, finish_withXe hs]
    rfl
  · have idle : idleOver s = s.withXe { s.xe with idleLeft := 0 } := by
      unfold idleOver
      rw [hf, Option.map_none, ← hf]
    have sent : frameSent s = s := by
      unfold frameSent
      rw [hf, Option.map_none, withXe_flight hf]
    refine ⟨?_, ?_, ?_, ?_, ?_, fun l b bad => ?_⟩
    · rw [exec_idleTimeEnd, idle, finish_withXe hs]
      rfl
    · rw [exec_commandFrameSent, sent, stays]
    · rw [exec_responseTimerExpiry, failIn_of_none hf, stays]
    · rw [exec_replyGapExpiry, failIn_of_none hf, stays]
    · rw [exec_replyWindowExpiry, failIn_of_none hf, stays]
    · rw [exec_replyOctet, hearOctet_of_none hf, stays]

end Attempts

/-! ## What follows a command within it -/

section Settles
variable {s t u : State}

/-- The moves that follow a command, counted. -/
inductive Leads : Nat → State → State → Prop
  | refl (s : State) : Leads 0 s s
  | step {n : Nat} {s t u : State} (h : settleOnce s = some t) (k : Leads n t u) : Leads (n + 1) s u

theorem Leads.one (h : settleOnce s = some t) : Leads 1 s t := .step h (.refl t)

theorem Leads.trans {m n : Nat} (h : Leads m s t) (k : Leads n t u) : Leads (n + m) s u := by
  induction h with
  | refl => exact k
  | step h _ ih => exact .step h (ih k)

theorem settleFor_leads {n m : Nat} (h : Leads n s t) (ht : Settled t) : settleFor (n + m) s = t := by
  induction h with
  | refl s =>
    cases m with
    | zero => rfl
    | succ m =>
      have none : settleOnce s = none := by
        unfold settleOnce
        rw [ht.2, ht.1]
        rfl
      show settleFor (0 + m + 1) s = s
      rw [settleFor, none]
  | @step n s t u h k ih =>
    rw [show n + 1 + m = (n + m) + 1 by omega, settleFor, h]
    exact ih ht

/-- What follows a command ends where its moves lead. -/
theorem settle_leads {n : Nat} (h : Leads n s t) (hn : n ≤ 1024) (ht : Settled t) : settle s = t := by
  unfold settle settleBound
  rw [show (1024 : Nat) = n + (1024 - n) by omega]
  exact settleFor_leads h ht

theorem finish_leads {n : Nat} (h : Leads n s t) (hn : n ≤ 1024) (ht : Settled t) :
    finish s = t.withLu (sendIfFree t.lu) := by
  rw [finish, settle_leads h hn ht, txStart_eq]

/-- A move of the walk where no decision is due. -/
theorem settleOnce_resume {i : Nat} (hd : s.arb.due = false) (hr : s.seq.resume = some i) :
    settleOnce s = some (reachSlot i s) := by
  unfold settleOnce
  rw [hd, hr]
  rfl

theorem settleOnce_due (hd : s.arb.due = true) : settleOnce s = some (makeDecision s) := if_pos hd

end Settles

/-! ## Slots that the walk comes to -/

section Slots
variable {s : State} {i : Nat}

/-- R104: a slot that is neither untimed nor an exchange passes the checks. -/
theorem haltCheck_plain {x : Slot} (s : State) (h : x.kind = .mark ∨ x.kind = .gap ∨ x.kind = .window ∨ x.kind = .stop) :
    haltCheck s x = none := by
  unfold haltCheck
  rcases h with h | h | h | h <;> simp [h, isUntimed, isExchange]

/-- R106: the sequencer at a slot that takes time. -/
def atSlot (q : Sequencer) (i : Nat) : Sequencer := { q with current := i, resume := none, chain := 0 }

theorem reachSlot_timed (h : (s.slot i).kind = .mark ∨ (s.slot i).kind = .gap ∨ (s.slot i).kind = .window) :
    reachSlot i s = actSlot (s.slot i) (s.withSeq (atSlot s.seq i)) := by
  unfold reachSlot
  dsimp only
  rw [haltCheck_plain _ (by tauto)]
  rcases h with h | h | h <;> rw [h] <;> rfl

/-- R114: a GAP that is reached. -/
theorem reachSlot_gap (h : (s.slot i).kind = .gap) :
    reachSlot i s = s.withSeq (gapReached { s.seq with resume := none } i (s.slot i).time) := by
  rw [reachSlot_timed (by tauto), actSlot, h]
  unfold reachGap lapse gapReached
  dsimp only
  split
  · next hd =>
    have : s.seq.timer = .due := hd
    rw [if_pos this]
    rfl
  · next hd =>
    have : ¬ s.seq.timer = .due := hd
    rw [if_neg this]
    rfl

/-- R120: a STOP that is reached. -/
theorem reachSlot_stop (h : (s.slot i).kind = .stop) :
    reachSlot i s = s.withSeq { restingAs s.seq .idle with current := i, resume := none } := by
  unfold reachSlot
  dsimp only
  rw [haltCheck_plain _ (by tauto)]
  dsimp only
  rw [actSlot, h]
  rfl

/-- R108: a MARK that is reached while the minor-cycle timer counts. -/
theorem reachSlot_counting (h : (s.slot i).kind = .mark) (ht : s.seq.timer = .counting) :
    reachSlot i s = s.withSeq { atSlot s.seq i with activity := .markWait } := by
  rw [reachSlot_timed (.inl h), actSlot, h]
  dsimp only
  unfold reachMark
  rw [show (s.withSeq (atSlot s.seq i)).seq.timer = _ from ht]
  rfl

/-- What a GAP leaves of the sequencer does not depend on the activity and the waits before it. -/
theorem gapReached_congr {q : Sequencer} (hq : q.resume = none) (a : Activity) (w : Nat) (i : Nat) (time : Word) :
    gapReached { q with activity := a, wait := w, resume := none } i time = gapReached q i time := by
  unfold gapReached
  rw [← hq]

end Slots

/-! ## The waits of the walk (R107, R114, R116) -/

section Waits
variable {s : State}

theorem exec_waitTimerExpiry (s : State) : exec .waitTimerExpiry s = .next (finish (waitOver s)) := rfl
theorem exec_minorCycleTimerZero (s : State) : exec .minorCycleTimerZero s = .next (finish (cycleTimerZero s)) := rfl

theorem waitOver_gap (h : s.seq.activity = .gapWait) : waitOver s = goOn (s.withSeq { s.seq with wait := 0 }) := if_pos h

/-- The walk goes on to the next slot, which it reaches in one move. -/
theorem leads_goOn (h : Settled s) : Leads 1 (goOn s) (reachSlot (nextSlot s.seq.current) (goOn s)) :=
  .one (settleOnce_resume h.2 rfl)

theorem goOn_gap (h : Settled s) (hg : (s.slot (nextSlot s.seq.current)).kind = .gap) :
    Leads 1 (goOn s) (s.withSeq (gapReached s.seq (nextSlot s.seq.current) (s.slot (nextSlot s.seq.current)).time)) := by
  have moves := leads_goOn h
  rw [reachSlot_gap (s := goOn s) hg] at moves
  have same : gapReached { (goOn s).seq with resume := none } (nextSlot s.seq.current)
      ((goOn s).slot (nextSlot s.seq.current)).time
        = gapReached s.seq (nextSlot s.seq.current) (s.slot (nextSlot s.seq.current)).time :=
    gapReached_congr h.1 .none s.seq.wait _ _
  rw [same] at moves
  exact moves

/-- Settles O50: the slot behind a GAP is reached in one move. -/
theorem waitTimerExpiry : Obligations.WaitTimerExpiry := by
  intro s hs i
  obtain ⟨hset, hsend⟩ := id hs
  have rests (q : Sequencer) : (s.withSeq q).withLu (sendIfFree (s.withSeq q).lu) = s.withSeq q := by
    rw [withSeq_lu, sendIfFree_of_nothing hsend]
    rfl
  refine ⟨fun ha => ?_, fun ha hr => ⟨fun hk => ?_, fun hk => ?_, fun hk ht => ?_⟩⟩
  · rw [exec_waitTimerExpiry, waitOver, if_neg ha, finish_of_atRest hs]
  · have moves := goOn_gap (s := s.withSeq { s.seq with wait := 0 }) hset hk
    have same : gapReached { s.seq with wait := 0 } i (s.slot i).time = gapReached s.seq i (s.slot i).time := rfl
    rw [exec_waitTimerExpiry, waitOver_gap ha, finish_leads moves (by decide) hset]
    exact congrArg _ (rests _)
  · have moves := leads_goOn (s := s.withSeq { s.seq with wait := 0 }) hset
    rw [reachSlot_stop (by exact hk)] at moves
    have same : ({ restingAs (goOn (s.withSeq { s.seq with wait := 0 })).seq .idle with
        current := i, resume := none } : Sequencer) = { restingAs s.seq .idle with current := i } := by
      rw [← hset.1]
      rfl
    rw [exec_waitTimerExpiry, waitOver_gap ha, finish_leads moves (by decide) ⟨rfl, hset.2⟩]
    show Host.Outcome.next ((s.withSeq _).withLu (sendIfFree s.lu)) = _
    rw [sendIfFree_of_nothing hsend]
    exact congrArg (fun q => Host.Outcome.next (s.withSeq q)) same
  · have moves := leads_goOn (s := s.withSeq { s.seq with wait := 0 }) hset
    rw [reachSlot_counting (by exact hk) (by exact ht)] at moves
    have same : ({ atSlot (goOn (s.withSeq { s.seq with wait := 0 })).seq i with activity := .markWait } : Sequencer)
        = { s.seq with current := i, activity := .markWait, wait := 0, chain := 0 } := by
      unfold atSlot
      rw [← hset.1]
      rfl
    rw [exec_waitTimerExpiry, waitOver_gap ha, finish_leads moves (by decide) ⟨rfl, hset.2⟩]
    show Host.Outcome.next ((s.withSeq _).withLu (sendIfFree s.lu)) = _
    rw [sendIfFree_of_nothing hsend]
    exact congrArg (fun q => Host.Outcome.next (s.withSeq q)) same

/-- R116: a run-to-end window with nothing in flight closes at the zero. -/
theorem cycleTimerZero_window (hc : s.seq.timer = .counting) (ha : s.seq.activity ≠ .markWait)
    (hw : idleRunToEnd s = true) : cycleTimerZero s = closeWindow (timerAtZero .due s) := by
  unfold cycleTimerZero
  rw [if_pos hc, if_neg ha, if_pos hw]

theorem idleRunToEnd_iff : idleRunToEnd s = true ↔
    s.arb.window.isOpen = true ∧ s.arb.window.kind = .runToEnd ∧ s.arb.window.inFlight = none := by
  simp [idleRunToEnd, and_assoc]

theorem closeWindow_running (h : s.seq.state = .running) : closeWindow s = goOn (clearWindow s) := by
  have running : (clearWindow s).seq.state = .running := h
  unfold closeWindow
  simp only [running]

/-- Settles O51: a timer that does not count, one that lapses, and the window that its zero closes. -/
theorem minorCycleTimerZero : Obligations.MinorCycleTimerZero := by
  intro s hs i w idleWindow
  obtain ⟨hset, hsend⟩ := id hs
  refine ⟨fun hc => ?_, fun hc ha hw => ?_, fun hc ha hw hr hk => ?_⟩
  · rw [exec_minorCycleTimerZero, cycleTimerZero, if_neg hc, finish_of_atRest hs]
  · have lapses : cycleTimerZero s = timerAtZero .lapsed s := by
      unfold cycleTimerZero
      rw [if_pos hc, if_neg ha, if_neg fun k => hw (idleRunToEnd_iff.mp k)]
    rw [exec_minorCycleTimerZero, lapses, finish_of_atRest (s := timerAtZero .lapsed s) hs]
    rfl
  · have settled : Settled (timerAtZero .due s) := hset
    have moves := goOn_gap (s := (timerAtZero .due s).withArb (windowShut (timerAtZero .due s).arb)) hset hk
    rw [exec_minorCycleTimerZero, cycleTimerZero_window hc ha (idleRunToEnd_iff.mpr hw), closeWindow_running (s := timerAtZero .due s) hr,
      clearWindow_settled settled, finish_leads moves (by decide) hset]
    show Host.Outcome.next (State.withLu _ (sendIfFree s.lu)) = _
    rw [sendIfFree_of_nothing hsend]
    rfl

end Waits

/-! ## The probe countdowns (R85, R89) -/

section Countdowns
variable {s : State}

theorem exec_laneProbeCountdownEnd (l : Lane) (s : State) :
    exec (.laneProbeCountdownEnd l) s = .next (finish (laneCountdownOver l s)) := rfl
theorem exec_nodeProbeCountdownEnd (a : Nat) (s : State) :
    exec (.nodeProbeCountdownEnd a) s = .next (finish (nodeCountdownOver a s)) := rfl

/-- R123: the PROBE queue once a probe has been posted. -/
theorem postProbe_queue (t : ProbeTarget) (hw : PostsWait s) :
    postProbe t s = s.withArb { s.arb with probe := if t ∈ s.arb.probe then s.arb.probe else s.arb.probe ++ [t] } := by
  rw [postProbe_waits t hw]
  by_cases ht : t ∈ s.arb.probe
  · rw [if_pos ht, if_pos (List.contains_iff_mem.mpr ht)]
  · rw [if_neg ht, if_neg fun k => ht (List.contains_iff_mem.mp k)]

theorem laneProbeDue_waits (l : Lane) (hw : PostsWait s) :
    laneProbeDue l s = (s.setLane l { s.lane l with probeCountdown := s.cfg.linkSet.probeInterval }).withArb
      { s.arb with probe := if .lane l ∈ s.arb.probe then s.arb.probe else s.arb.probe ++ [.lane l] } := by
  unfold laneProbeDue
  rw [postProbe_queue _ (by rw [PostsWait, setLane_arb]; exact hw), setLane_arb]

theorem nodeProbeDue_waits (a : Nat) (hw : PostsWait s) :
    nodeProbeDue a s = (s.setNode a { s.node a with probeCountdown := s.cfg.linkSet.probeInterval }).withArb
      { s.arb with probe := if .node a ∈ s.arb.probe then s.arb.probe else s.arb.probe ++ [.node a] } := by
  unfold nodeProbeDue
  rw [postProbe_queue _ (by rw [PostsWait, setNode_arb]; exact hw), setNode_arb]

/-- Settles O53: the probe joins its queue and the countdown is reloaded, where there is one. -/
theorem probeCountdownEnds : Obligations.ProbeCountdownEnds := by
  intro s hs hw
  obtain ⟨hset, hsend⟩ := id hs
  refine ⟨fun l hl => ?_, fun l hl => ?_, fun a ha => ?_, fun a h1 h48 ha => ?_⟩
  · rw [exec_laneProbeCountdownEnd, laneCountdownOver, if_neg (by rw [hl]; nofun), finish_of_atRest hs]
  · rw [exec_laneProbeCountdownEnd, laneCountdownOver, if_pos hl, laneProbeDue_waits l hw]
    cases l <;> exact congrArg _ (finish_of_atRest hs)
  · rw [exec_nodeProbeCountdownEnd, nodeCountdownOver, if_neg (by rw [ha]; nofun), finish_of_atRest hs]
  · rw [exec_nodeProbeCountdownEnd, nodeCountdownOver, if_pos ha, nodeProbeDue_waits a hw, setNode_of_pos h1]
    exact congrArg _ (finish_of_atRest hs)

end Countdowns

end Sys2Proof.Machine
end

section
/-! PROOFS. Derivation and override check (R29, R30) where no post brings a decision: the part they leave is the part with
its limits derived, and in the FROST queue every node that stands outside its limit behind what the queue held. -/

namespace Sys2Proof.Machine

/-! ## The FROST queue -/

section Queue

/-- The state with a FROST queue. -/
def State.withFrost (s : State) (f : List Nat) : State := s.withArb { s.arb with frost := f }

/-- R30, R123: the nodes that `p` names have joined a queue behind what it held, and no other has. -/
structure Joined (p : Nat → Prop) (xs ys : List Nat) : Prop where
  kept : xs <+: ys
  only : ∀ a ∈ ys, a ∈ xs ∨ p a
  all : ∀ a, p a → a ∈ ys

theorem Joined.refl {p : Nat → Prop} (h : ∀ a, ¬ p a) (xs : List Nat) : Joined p xs xs :=
  ⟨List.prefix_rfl, fun _ => .inl, fun a k => absurd k (h a)⟩

theorem Joined.trans {p q : Nat → Prop} {xs ys zs : List Nat} (h : Joined p xs ys) (k : Joined q ys zs) :
    Joined (fun a => p a ∨ q a) xs zs where
  kept := h.kept.trans k.kept
  only a ha := (k.only a ha).elim (fun ha => (h.only a ha).imp_right .inl) fun ha => .inr (.inr ha)
  all a := fun ha => ha.elim (fun ha => k.kept.subset (h.all a ha)) (k.all a)

theorem Joined.congr {p q : Nat → Prop} {xs ys : List Nat} (h : Joined p xs ys) (hpq : ∀ a, p a ↔ q a) : Joined q xs ys :=
  ⟨h.kept, fun a ha => (h.only a ha).imp_right (hpq a).mp, fun a ha => h.all a ((hpq a).mpr ha)⟩

theorem joined_frostWith (s : State) (a : Nat) : Joined (· = a) s.arb.frost (frostWith s true a) := by
  unfold frostWith
  by_cases hc : s.arb.frost.contains a = true
  · rw [if_neg (by rw [hc]; nofun)]
    exact ⟨List.prefix_rfl, fun _ => .inl, fun b hb => hb ▸ List.contains_iff_mem.mp hc⟩
  · rw [if_pos (by simpa using hc)]
    exact ⟨List.prefix_append .., fun b hb => by simpa using hb, fun b hb => by simp [hb]⟩

variable {s : State}

theorem waits_withFrost (h : PostsWait s) (f : List Nat) : PostsWait (s.withFrost f) := h

theorem withFrost_withFrost (s : State) (f g : List Nat) : (s.withFrost f).withFrost g = s.withFrost g := rfl

/-- A post made where a check says so. -/
theorem postFrost_if (h : PostsWait s) (b : Bool) (a : Nat) :
    ∃ f, (if b = true then postFrost a s else s) = s.withFrost f ∧ Joined (fun x => x = a ∧ b = true) s.arb.frost f := by
  cases b with
  | false => exact ⟨s.arb.frost, rfl, .refl (fun _ k => nomatch k.2) _⟩
  | true => exact ⟨_, postFrost_waits a h, (joined_frostWith s a).congr fun _ => (and_iff_left rfl).symm⟩

/-- The checks of a list of nodes, each judged on what the posts leave alone. -/
theorem foldl_joins {f : Nat → State → State} {out : State → Nat → Prop}
    (hf : ∀ a s, PostsWait s → ∃ q, f a s = s.withFrost q ∧ Joined (fun x => x = a ∧ out s x) s.arb.frost q)
    (ho : ∀ s q, out (State.withFrost s q) = out s) (as : List Nat) (h : PostsWait s) :
    ∃ q, as.foldl (fun t a => f a t) s = s.withFrost q ∧ Joined (fun x => x ∈ as ∧ out s x) s.arb.frost q := by
  induction as generalizing s with
  | nil => exact ⟨s.arb.frost, rfl, .refl (fun _ k => nomatch k.1) _⟩
  | cons a as ih =>
    obtain ⟨q, hq, hj⟩ := hf a s h
    obtain ⟨r, hr, hk⟩ := ih (waits_withFrost h q)
    refine ⟨r, by rw [List.foldl_cons, hq, hr, withFrost_withFrost], (hj.trans hk).congr fun x => ?_⟩
    rw [ho, List.mem_cons]
    tauto

end Queue

/-! ## The override check (R30) -/

section Check
variable {s : State}

theorem fanOutside_iff {n : NodeState} {e : Nat} :
    fanOutside n e = true ↔ n.health = .active ∧ n.lastSent.all (fun v => decide (e < v)) = true := by
  unfold fanOutside
  cases n.lastSent <;> simp

theorem floorOutside_iff {n : NodeState} {floor : Nat} :
    floorOutside n floor = true ↔ n.health = .active ∧ n.lastSent.all (fun v => decide (v < floor)) = true := by
  unfold floorOutside
  cases n.lastSent <;> simp

/-- R30: a fan or the valve of section `i` that stands outside the section's limit. -/
def Stands (s : State) (i a : Nat) : Prop :=
  (a ∈ (s.secCfg i).fans ∧ fanOutside (s.node a) (s.sec i).fanCeiling = true)
    ∨ (a = (s.secCfg i).valve ∧ a ≠ 0 ∧ floorOutside (s.node a) (s.sec i).valveFloor = true)

/-- R30: a pump that stands outside the pump floor. -/
def PumpStands (s : State) (a : Nat) : Prop :=
  a ∈ s.cfg.loop.pumps ∧ floorOutside (s.node a) s.cfg.loop.pumpFloor = true

theorem Stands.role {i a : Nat} (h : Stands s i a) :
    a ∈ (s.secCfg i).fans ∨ (a = (s.secCfg i).valve ∧ a ≠ 0) :=
  h.imp And.left fun ⟨hv, h0, _⟩ => ⟨hv, h0⟩

theorem checkFan_waits (h : PostsWait s) (i a : Nat) : ∃ f, checkFan i a s = s.withFrost f
    ∧ Joined (fun x => x = a ∧ fanOutside (s.node x) (s.sec i).fanCeiling = true) s.arb.frost f := by
  obtain ⟨f, hf, hj⟩ := postFrost_if h (fanOutside (s.node a) (s.sec i).fanCeiling) a
  exact ⟨f, hf, hj.congr fun x => and_congr_right fun hx => by rw [hx]⟩

theorem checkValve_waits (h : PostsWait s) (i a : Nat) : ∃ f, checkValve i a s = s.withFrost f
    ∧ Joined (fun x => x = a ∧ x ≠ 0 ∧ floorOutside (s.node x) (s.sec i).valveFloor = true) s.arb.frost f := by
  obtain ⟨f, hf, hj⟩ := postFrost_if h (decide (a ≠ 0 ∧ floorOutside (s.node a) (s.sec i).valveFloor = true)) a
  refine ⟨f, ?_, hj.congr fun x => and_congr_right fun hx => by rw [hx, decide_eq_true_eq]⟩
  rw [← hf]
  unfold checkValve
  simp only [decide_eq_true_eq]

theorem checkPump_waits (h : PostsWait s) (a : Nat) : ∃ f, checkPump a s = s.withFrost f
    ∧ Joined (fun x => x = a ∧ floorOutside (s.node x) s.cfg.loop.pumpFloor = true) s.arb.frost f := by
  obtain ⟨f, hf, hj⟩ := postFrost_if h (floorOutside (s.node a) s.cfg.loop.pumpFloor) a
  exact ⟨f, hf, hj.congr fun x => and_congr_right fun hx => by rw [hx]⟩

/-- R30: the override check posts the nodes of the section that stand outside its limits. -/
theorem overrideCheck_waits (h : PostsWait s) (i : Nat) :
    ∃ f, overrideCheck i s = s.withFrost f ∧ Joined (Stands s i) s.arb.frost f := by
  obtain ⟨q, hq, hj⟩ := foldl_joins (f := checkFan i)
    (out := fun s x => fanOutside (s.node x) (s.sec i).fanCeiling = true)
    (fun a s hs => checkFan_waits hs i a) (fun _ _ => rfl) (s.secCfg i).fans h
  obtain ⟨r, hr, hk⟩ := checkValve_waits (waits_withFrost h q) i (s.secCfg i).valve
  exact ⟨r, by rw [overrideCheck, hq, hr, withFrost_withFrost], hj.trans hk⟩

/-- R30: the pump part posts the pumps that stand outside the pump floor. -/
theorem pumpCheck_waits (h : PostsWait s) : ∃ f, pumpCheck s = s.withFrost f ∧ Joined (PumpStands s) s.arb.frost f :=
  foldl_joins (f := checkPump) (out := fun s x => floorOutside (s.node x) s.cfg.loop.pumpFloor = true)
    (fun a _ hs => checkPump_waits hs a) (fun _ _ => rfl) s.cfg.loop.pumps h

/-- R29, R30: a derivation and the check that follows it. -/
theorem deriveAndCheck_waits (h : PostsWait s) (i : Nat) :
    ∃ f, deriveAndCheck i s = (derive i s).withFrost f ∧ Joined (Stands (derive i s) i) s.arb.frost f :=
  overrideCheck_waits (s := derive i s) h i

/-- R29: a section record with its limits derived. -/
def derivedSec (s : State) (i : Nat) : SectionState :=
  { s.sec i with fanCeiling := fanCeilingOf (s.sec i).flow (s.sec i).ceiling s.loop.ceiling,
                 valveFloor := valveFloorOf (s.sec i).flow (s.sec i).sight (s.secCfg i).valveMin (s.sec i).ceiling }

theorem derive_eq (i : Nat) (s : State) : derive i s = s.setSec i (derivedSec s i) := rfl

theorem sectionDerived_of_sec {t : State} {i : Nat} (hs : t.sec i = derivedSec s i) (hc : t.secCfg i = s.secCfg i)
    (hl : t.loop.ceiling = s.loop.ceiling) : SectionDerived t i := by
  unfold SectionDerived
  rw [hs, hc, hl]
  exact ⟨rfl, rfl⟩

end Check

/-! ## The check of one node (R47, R48) -/

section Node
variable {s : State}

theorem frostWith_false (s : State) (a : Nat) : frostWith s false a = s.arb.frost := rfl

theorem postFrost_frostWith (hd : PostsWait s) (b : Bool) (a : Nat) :
    (if b = true then postFrost a s else s) = s.withFrost (frostWith s b a) := by
  cases b with
  | false => rfl
  | true => exact postFrost_waits a hd

theorem fanOutside_eq (n : NodeState) (e : Nat) :
    fanOutside n e = (decide (n.health = .active) && n.lastSent.all fun v => decide (e < v)) := by
  rw [Bool.eq_iff_iff, fanOutside_iff]
  simp

theorem floorOutside_eq (n : NodeState) (floor : Nat) :
    floorOutside n floor = (decide (n.health = .active) && n.lastSent.all fun v => decide (v < floor)) := by
  rw [Bool.eq_iff_iff, floorOutside_iff]
  simp

theorem valveSection_ne_zero {a i : Nat} (h : s.valveSection a = some i) : a ≠ 0 := by
  have := List.find?_some h
  simp only [Bool.and_eq_true, decide_eq_true_eq] at this
  exact this.1

/-- R47, R48: an ACTIVE node that stands outside the limit of its role joins FROST. -/
theorem checkNode_waits (h : PostsWait s) (a : Nat) :
    checkNode a s = s.withFrost (frostWith s (decide ((s.node a).health = .active) && standsOutside s a) a) := by
  rw [← postFrost_frostWith h]
  unfold checkNode standsOutside
  cases hf : s.fanSection a with
  | some i =>
    dsimp only
    rw [← fanOutside_eq]
    rfl
  | none =>
    cases hv : s.valveSection a with
    | some i =>
      dsimp only
      rw [← floorOutside_eq]
      unfold checkValve
      simp only [valveSection_ne_zero hv, ne_eq, not_false_iff, true_and]
    | none =>
      dsimp only
      by_cases hp : s.isPump a = true
      · simp only [hp, if_true, Bool.true_and, ← floorOutside_eq]
        rfl
      · simp [hp]

end Node

/-! ## A change of flow (R53) -/

section Flow
variable {s : State}

/-- R53: a flow that stands changes nothing. -/
theorem setFlow_same {i : Nat} {f : Flow} (h : (s.sec i).flow = f) : setFlow i f s = s := if_pos h

/-- R53: a changed flow derives the limits and posts. -/
theorem setFlow_changed {i : Nat} {f : Flow} (h : (s.sec i).flow ≠ f) :
    setFlow i f s = deriveAndCheck i (s.setSec i { s.sec i with flow := f }) := if_neg h

/-- What a change of flow leaves: the section with its flow, its limits derived where it changed, and its overrides. -/
structure FlowSet (i : Nat) (f : Flow) (s t : State) : Prop where
  frame : t = (s.withSections t.sections).withFrost t.arb.frost
  others : ∀ j, j ≠ i → t.sec j = s.sec j
  own : t.sec i = { s.sec i with flow := f, fanCeiling := (t.sec i).fanCeiling, valveFloor := (t.sec i).valveFloor }
  same : (s.sec i).flow = f → t = s
  derived : (s.sec i).flow ≠ f → SectionDerived t i ∧ Joined (Stands t i) s.arb.frost t.arb.frost
  kept : s.arb.frost <+: t.arb.frost
  only : ∀ a ∈ t.arb.frost, a ∈ s.arb.frost ∨ (s.sec i).flow ≠ f ∧ Stands t i a

theorem setFlow_waits {i : Nat} (hi : i < 8) (f : Flow) (h : PostsWait s) : FlowSet i f s (setFlow i f s) := by
  by_cases hf : (s.sec i).flow = f
  · rw [setFlow_same hf]
    exact { frame := rfl, others := fun _ _ => rfl, own := by rw [← hf], same := fun _ => rfl,
            derived := fun k => absurd hf k, kept := List.prefix_rfl, only := fun _ => .inl }
  · rw [setFlow_changed hf]
    generalize hu : s.setSec i { s.sec i with flow := f } = u
    have waits : PostsWait u := by rw [← hu]; exact h
    have frost : u.arb.frost = s.arb.frost := by rw [← hu]; rfl
    have own : u.sec i = { s.sec i with flow := f } := by rw [← hu]; exact sec_setSec_same s _ hi
    obtain ⟨q, hq, hj⟩ := deriveAndCheck_waits waits i
    have limits : ((derive i u).withFrost q).sec i = derivedSec u i := sec_setSec_same u _ hi
    have stands : Joined (Stands ((derive i u).withFrost q) i) s.arb.frost q := by
      rw [← frost]
      exact hj
    rw [hq]
    refine { frame := by rw [← hu]; rfl, others := fun j hj => ?_, own := ?_, same := fun k => absurd k hf,
             derived := fun _ => ⟨sectionDerived_of_sec limits rfl rfl, stands⟩, kept := stands.kept,
             only := fun a ha => (stands.only a ha).imp_right fun k => ⟨hf, k⟩ }
    · rw [← hu]
      exact (sec_setSec_other _ _ hj.symm).trans (sec_setSec_other _ _ hj.symm)
    · rw [limits]
      unfold derivedSec
      rw [own]

end Flow

end Sys2Proof.Machine
end

section
/-! PROOFS. Node entries (R3 to R5), REVIVE (R90), the hand-off of a successful DRIVE (R7, R43, R47, R53, R61) and the
timers of a section (R54 to R56, R63). -/

namespace Sys2Proof.Machine

/-! ## NODE entries (R3 to R5, R176) -/

section NodeEntries
variable {s : State}

/-- R3: a NODE entry is refused just where a field is outside its values. -/
theorem nodeOfEntry_eq_none (e : NodeEntry) : nodeOfEntry e = none ↔
    4 < e.kind.toNat ∨ 1 < e.lane.toNat ∨ 1 < e.report.toNat ∨ e.high.toInt < e.low.toInt ∨ e.silence.toNat = 0
      ∨ 15 < e.silence.toNat := by
  unfold nodeOfEntry
  split
  next k l r hk hl hr =>
    have h1 : _ < 5 := lt_of_valueOf hk
    have h2 : _ < 2 := lt_of_valueOf hl
    have h3 : _ < 2 := lt_of_valueOf hr
    simp only [octetIn_iff]
    split
    next ok => exact ⟨nofun, fun k => by omega⟩
    next bad => exact ⟨fun _ => by omega, fun _ => rfl⟩
  next none_ =>
    refine ⟨fun _ => ?_, fun _ => rfl⟩
    by_contra h
    obtain ⟨k, hk⟩ := valueOf_isSome (values := nodeKinds) (b := e.kind) (show _ < 5 by omega)
    obtain ⟨l, hl⟩ := valueOf_isSome (values := lanes) (b := e.lane) (show _ < 2 by omega)
    obtain ⟨r, hr⟩ := valueOf_isSome (values := reportModes) (b := e.report) (show _ < 2 by omega)
    exact none_ k l r hk hl hr

/-- A node of a section is named in a role. -/
theorem hasRole_of_section {a i : Nat} (hi : i ∈ sectionNumbers) (h0 : a ≠ 0)
    (h : a ∈ (s.secCfg i).fans ∨ a = (s.secCfg i).valve) : hasRole s a = true := by
  have role : ∃ k, (a, k) ∈ sectionRoles (s.secCfg i) := by
    rcases h with h | h
    · exact ⟨.fan, List.mem_filter.mpr ⟨by simp [h], by simpa using h0⟩⟩
    · exact ⟨.valve, List.mem_filter.mpr ⟨by simp [h], by simpa using h0⟩⟩
  obtain ⟨k, hk⟩ := role
  refine List.any_eq_true.mpr ⟨(a, k), List.mem_append_left _ (List.mem_flatMap.mpr ⟨i, ?_, hk⟩), by simp⟩
  exact List.mem_filter.mpr ⟨hi, rfl⟩

/-- A pump is named in a role. -/
theorem hasRole_of_pump {a : Nat} (h0 : a ≠ 0) (h : a ∈ s.cfg.loop.pumps) : hasRole s a = true := by
  refine List.any_eq_true.mpr ⟨(a, .pump), List.mem_append_right _ (List.mem_filter.mpr ⟨?_, ?_⟩), by simp⟩
  · simp [h]
  · simpa using h0

/-- R47, R48: a node in no role has no limit to be checked against. -/
theorem checkNode_roleless {a : Nat} (h : hasRole s a = false) : checkNode a s = s := by
  have fan : s.fanSection a = none := by
    cases hf : s.fanSection a with
    | none => rfl
    | some i =>
      have named := List.find?_some hf
      simp only [Bool.and_eq_true, decide_eq_true_eq, List.contains_iff_mem] at named
      rw [hasRole_of_section (List.mem_of_find?_eq_some hf) named.1 (.inl named.2)] at h
      cases h
  have valve : s.valveSection a = none := by
    cases hf : s.valveSection a with
    | none => rfl
    | some i =>
      have named := List.find?_some hf
      simp only [Bool.and_eq_true, decide_eq_true_eq, beq_iff_eq] at named
      rw [hasRole_of_section (List.mem_of_find?_eq_some hf) named.1 (.inr named.2.symm)] at h
      cases h
  have pump : s.isPump a = false := by
    by_contra hp
    simp only [State.isPump, Bool.not_eq_false, Bool.and_eq_true, decide_eq_true_eq, List.contains_iff_mem] at hp
    rw [hasRole_of_pump hp.1 hp.2] at h
    cases h
  unfold checkNode
  rw [fan, valve]
  dsimp only
  rw [pump]
  rfl

/-- R4: the part once a node has taken another kind. -/
def nodeReset (s : State) (a : Nat) (c : NodeCfg) : State :=
  { s with
    cfg := { s.cfg with
      nodes := s.cfg.nodes.setIfInBounds (a - 1) c,
      hold := s.cfg.hold.setIfInBounds (a - 1) (if c.kind = .valve ∨ c.kind = .pump then 1000 else 0) },
    nodes := s.nodes.setIfInBounds (a - 1) .powerOn, demand := s.demand.setIfInBounds (a - 1) none }

theorem resetNode_written {a : Nat} (h1 : 1 ≤ a) (c : NodeCfg) : resetNode a c.kind (writeNodeCfg a c s) = nodeReset s a c := by
  have hold : defaultHold c.kind = if c.kind = .valve ∨ c.kind = .pump then 1000 else 0 := by cases c.kind <;> rfl
  unfold resetNode
  rw [setNode_of_pos h1, setDemand_of_pos h1, setHold_of_pos h1, hold]
  rfl

theorem nodeReset_node {a : Nat} (h1 : 1 ≤ a) (h48 : a ≤ 48) (c : NodeCfg) : (nodeReset s a c).node a = .powerOn := by
  have written : (s.setNode a .powerOn).node a = .powerOn := node_setNode_same s _ h1 h48
  rw [setNode_of_pos h1] at written
  exact written

/-- R4: a SILENT node that takes another kind is ACTIVE, its probe removed. -/
theorem nodeActive_reset {a : Nat} (h1 : 1 ≤ a) (h48 : a ≤ 48) (c : NodeCfg) (hr : hasRole s a = false) :
    nodeActive a false (nodeReset s a c) = removeProbe (.node a) (nodeReset s a c) := by
  have again : (nodeReset s a c).setNode a
      { (nodeReset s a c).node a with health := .active, streak := 0, probeCountdown := 0 } = nodeReset s a c := by
    rw [nodeReset_node h1 h48, setNode_of_pos h1]
    unfold nodeReset State.withNodes
    dsimp only
    rw [Vector.setIfInBounds_setIfInBounds]
    rfl
  unfold nodeActive
  dsimp only
  rw [again]
  exact checkNode_roleless hr

theorem kindChange_written {a : Nat} (h1 : 1 ≤ a) (h48 : a ≤ 48) (c : NodeCfg) (hr : hasRole s a = false) :
    kindChange a c.kind (writeNodeCfg a c s) = { nodeReset s a c with arb := { s.arb with
      probe := if (s.node a).health = .silent then s.arb.probe.filter (· ≠ .node a) else s.arb.probe } } := by
  unfold kindChange
  dsimp only
  rw [resetNode_written h1]
  by_cases hs : (s.node a).health = .silent
  · have silent : ((writeNodeCfg a c s).node a).health = .silent := hs
    rw [if_pos silent, if_pos hs, nodeActive_reset h1 h48 c hr]
    rfl
  · have active : ¬ ((writeNodeCfg a c s).node a).health = .silent := hs
    rw [if_neg active, if_neg hs]
    rfl

theorem silenceLowered_written {a : Nat} (h1 : 1 ≤ a) (before : Nat) (c : NodeCfg) :
    silenceLowered a before c.silence (writeNodeCfg a c s) = { s with
      cfg := { s.cfg with nodes := s.cfg.nodes.setIfInBounds (a - 1) c },
      nodes := if (s.node a).health = .active ∧ c.silence < before ∧ c.silence ≤ (s.node a).streak
        then s.nodes.setIfInBounds (a - 1) { s.node a with streak := c.silence - 1 } else s.nodes } := by
  unfold silenceLowered
  dsimp only
  by_cases h : (s.node a).health = .active ∧ c.silence < before ∧ c.silence ≤ (s.node a).streak
  · have lowered : ((writeNodeCfg a c s).node a).health = .active ∧ c.silence < before
        ∧ c.silence ≤ ((writeNodeCfg a c s).node a).streak := h
    rw [if_pos lowered, if_pos h, setNode_of_pos h1]
    rfl
  · have stands : ¬ (((writeNodeCfg a c s).node a).health = .active ∧ c.silence < before
        ∧ c.silence ≤ ((writeNodeCfg a c s).node a).streak) := h
    rw [if_neg stands, if_neg h]
    rfl

/-- Settles O30: an entry that is refused, one that keeps the kind, and one that changes it. -/
theorem nodeEntryWritten : Obligations.NodeEntryWritten := by
  intro a e s h1 h48 hs outside n
  have judged : judgeEntry nodeRules a e s = match applyNode a e s with
      | some t => .inr t
      | none => .inl .badValue := judgeEntry_applied e h1 h48 hs (absurd · (by decide))
  refine ⟨fun ho => ?_, fun ho => ?_⟩
  · rw [judged, applyNode, (nodeOfEntry_eq_none e).mpr ho]
  have reads : nodeOfEntry e ≠ none := fun hn => ho ((nodeOfEntry_eq_none e).mp hn)
  obtain ⟨c, hc⟩ := Option.ne_none_iff_exists'.mp reads
  have applied (hok : nodeKindOk s a c.kind = true) : judgeEntry nodeRules a e s = .inr (writeNode a c s) := by
    rw [judged, applyNode, hc]
    dsimp only
    rw [if_pos hok]
  refine ⟨c, nodeOctets_of_entry hc, fun hk hr => ?_, fun hk => ?_, fun hk hr => ?_⟩
  · have refused : ¬ nodeKindOk s a c.kind = true := by simp [nodeKindOk, hk, hr]
    rw [judged, applyNode, hc]
    dsimp only
    rw [if_neg refused]
  · rw [applied (by simp [nodeKindOk, hk]), writeNode]
    dsimp only
    rw [if_pos (by exact hk), silenceLowered_written h1]
  · rw [applied (by simp [nodeKindOk, hr]), writeNode]
    dsimp only
    rw [if_neg (by exact hk), kindChange_written h1 h48 c hr]
    rfl

end NodeEntries

/-! ## REVIVE (R90) -/

section Revives
variable {s : State}

theorem exec_reviveNode (tag node : Byte) (s : State) :
    exec (.reviveNode tag node) s = .next (request kindCommand tag [codeRevive] (serveReviveNode node) s) := rfl

theorem exec_reviveLane (tag lane : Byte) (s : State) :
    exec (.reviveLane tag lane) s = .next (request kindCommand tag [codeRevive] (serveReviveLane lane) s) := rfl

/-- Where a node stands depends on the tables, the sections and its last sent. -/
theorem standsOutside_congr {s t : State} {a : Nat} (hc : t.cfg = s.cfg) (hs : t.sections = s.sections)
    (hn : (t.node a).lastSent = (s.node a).lastSent) : standsOutside t a = standsOutside s a := by
  unfold standsOutside State.fanSection State.valveSection State.isPump State.secCfg State.sec
  rw [hc, hs, hn]

/-- R88, R90: the part once a SILENT node is ACTIVE again, with room for its report. -/
theorem nodeActive_revived {a : Nat} (h1 : 1 ≤ a) (h48 : a ≤ 48) (hw : PostsWait s) (hr : RoomForReports s 1) :
    nodeActive a true s = { s with
      nodes := s.nodes.setIfInBounds (a - 1) { s.node a with health := .active, streak := 0, probeCountdown := 0 },
      arb := { s.arb with probe := s.arb.probe.filter (· ≠ .node a), frost := frostWith s (standsOutside s a) a },
      lu := { s.lu with reports := reportsWith s [infoNow s .nodeRevived (.node a) 0] } } := by
  unfold nodeActive
  dsimp only
  rw [if_pos rfl]
  generalize hn : ({ s.node a with health := .active, streak := 0, probeCountdown := 0 } : NodeState) = n
  have written : (s.setNode a n).node a = n := node_setNode_same s n h1 h48
  rw [setNode_of_pos h1] at written ⊢
  have room : RoomForReports (removeProbe (.node a) (s.withNodes (s.nodes.setIfInBounds (a - 1) n))) 1 := hr
  rw [inform_room room]
  generalize hv : State.withReports _ _ = v
  have node : v.node a = n := by rw [← hv]; exact written
  have waits : PostsWait v := by rw [← hv]; exact hw
  have outside : standsOutside v a = standsOutside s a :=
    standsOutside_congr (by rw [← hv]; rfl) (by rw [← hv]; rfl) (by rw [node, ← hn])
  have active : decide ((v.node a).health = .active) = true := by rw [node, ← hn]; rfl
  rw [checkNode_waits waits, active, Bool.true_and, outside]
  have frost : frostWith v (standsOutside s a) a = frostWith s (standsOutside s a) a := by rw [← hv]; rfl
  rw [frost, ← hv]
  rfl

/-- R84, R90: the part once a DOWN lane is UP again, with room for its report. -/
theorem laneUp_room (l : Lane) (hr : RoomForReports s 1) :
    laneUp l s = { s with
      xe := (s.setLane l { s.lane l with health := .up, streak := 0, probeCountdown := 0 }).xe,
      arb := { s.arb with probe := s.arb.probe.filter (· ≠ .lane l) },
      lu := { s.lu with reports := reportsWith s [infoNow s .laneUp (.lane l) 0] } } := by
  have room : RoomForReports (s.setLane l { s.lane l with health := .up, streak := 0, probeCountdown := 0 }) 1 := by
    cases l <;> exact hr
  unfold laneUp
  rw [inform_room room]
  cases l <;> rfl

theorem laneGood_up {l : Lane} (h : (s.lane l).health = .up) : laneGood l s = s.setLane l { s.lane l with streak := 0 } :=
  if_neg (by rw [h]; nofun)

/-- Settles O39: the node and the lane that are refused, the one that stands and the one that comes back. -/
theorem revive : Obligations.Revive := by
  intro tag s h hr
  obtain ⟨hserved, hup, hroom, hset⟩ := id h
  refine ⟨fun node => ?_, fun lane => ⟨fun hl => ?_, fun l hl => ⟨fun hs => ?_, fun hs => ?_⟩⟩⟩
  · intro a n
    have inPart (hk : s.kindOf a ≠ .none) : InPart a ∧ ¬ (node = 0 ∨ 48 < node.toNat) := by
      obtain ⟨h1, h48⟩ := kindOf_inPart hk
      refine ⟨⟨h1, h48⟩, ?_⟩
      rintro (rfl | hn)
      · exact absurd h1 (by decide)
      · exact absurd h48 (by omega)
    have serves (hk : s.kindOf a ≠ .none) : serveReviveNode node (s.withLu (frameTaken s))
        = accept codeRevive (nodeGood a (s.withLu (frameTaken s))) := by
      unfold serveReviveNode
      rw [if_neg (inPart hk).2, if_neg (by exact hk)]
    refine ⟨fun hk => ?_, fun hk ha => ?_, fun hk ha hw => ?_⟩
    · have served : serveReviveNode node (s.withLu (frameTaken s)) = refuse .badIndex [codeRevive] (s.withLu (frameTaken s)) := by
        unfold serveReviveNode
        rw [if_pos (show (s.withLu (frameTaken s)).kindOf node.toNat = .none from hk), ite_self]
      rw [exec_reviveNode, request_refused h served]
      rfl
    · have good : nodeGood a (s.withLu (frameTaken s))
          = (s.withLu (frameTaken s)).withNodes (s.nodes.setIfInBounds (a - 1) { n with streak := 0 }) := by
        have active : ¬ ((s.withLu (frameTaken s)).node a).health = .silent := fun k => by
          rw [show ((s.withLu (frameTaken s)).node a).health = _ from ha] at k
          cases k
        rw [nodeGood, if_neg active, setNode_of_pos (inPart hk).1.1]
        rfl
      rw [exec_reviveNode, request_answered h ((serves hk).trans (by rw [good]; rfl)) (by exact hset)]
      rfl
    · have good := nodeActive_revived (s := s.withLu (frameTaken s)) (inPart hk).1.1 (inPart hk).1.2 hw hr
      have served : serveReviveNode node (s.withLu (frameTaken s)) = accept codeRevive _ :=
        (serves hk).trans (congrArg (accept codeRevive) ((if_pos ha).trans good))
      rw [exec_reviveNode, request_answered h served (by exact hset)]
      rfl
  · have served : serveReviveLane lane (s.withLu (frameTaken s)) = refuse .badIndex [codeRevive] (s.withLu (frameTaken s)) := by
      unfold serveReviveLane
      rw [valueOf_eq_none (values := lanes) (by exact hl)]
    rw [exec_reviveLane, request_refused h served]
    rfl
  · have served : serveReviveLane lane (s.withLu (frameTaken s))
        = accept codeRevive ((s.withLu (frameTaken s)).setLane l { s.lane l with streak := 0 }) := by
      unfold serveReviveLane
      rw [show valueOf lanes lane = some l from hl]
      cases l <;> exact congrArg (accept codeRevive) (laneGood_up (s := s.withLu (frameTaken s)) hs)
    rw [exec_reviveLane, request_answered h served (by cases l <;> exact hset)]
    cases l <;> rfl
  · have up := laneUp_room (s := s.withLu (frameTaken s)) l hr
    have served : serveReviveLane lane (s.withLu (frameTaken s)) = accept codeRevive (laneUp l (s.withLu (frameTaken s))) := by
      unfold serveReviveLane
      rw [show valueOf lanes lane = some l from hl]
      dsimp only
      rw [laneGood]
      cases l <;> exact congrArg (accept codeRevive) (if_pos hs)
    rw [up] at served
    rw [exec_reviveLane, request_answered h served (by exact hset)]
    cases l <;> rfl

end Revives

end Sys2Proof.Machine
end

section
/-! PROOFS. The hand-off of a successful DRIVE (R7, R43, R47, R53, R61) and the timers of a section (R54 to R56, R63). -/

namespace Sys2Proof.Machine

/-! ## Successful DRIVEs (R7, R43, R47, R53, R61) -/

section Drives
variable {s : State}

theorem valveSection_spec {a i : Nat} (h : s.valveSection a = some i) : i < 8 ∧ a ≠ 0 ∧ (s.secCfg i).valve = a := by
  have named := List.find?_some h
  simp only [Bool.and_eq_true, decide_eq_true_eq, beq_iff_eq] at named
  exact ⟨mem_sectionNumbers.mp (List.mem_of_find?_eq_some h), named⟩

/-- R53: the flow as the last sent of the section's valve has it. -/
def flowOf (s : State) (i : Nat) : Flow :=
  if (s.secCfg i).valve ≠ 0 ∧ (s.node (s.secCfg i).valve).lastSent.any
    (fun v => decide ((s.secCfg i).flushThreshold ≤ v)) = true then .opened else .parked

theorem judgedFlow_eq (s : State) (i : Nat) : judgedFlow s i = flowOf s i := by
  unfold judgedFlow flowOf
  dsimp only
  by_cases h0 : (s.secCfg i).valve = 0
  · rw [if_pos h0, if_neg fun k => k.1 h0]
  · rw [if_neg h0]
    cases (s.node (s.secCfg i).valve).lastSent with
    | none => simp
    | some v => simp [h0]

/-- R53: Flush Accounting judges the flow of a section that is not FLUSHING. -/
theorem flushTakesDrive_eq {a i : Nat} (h : s.valveSection a = some i) :
    flushTakesDrive a s = setFlow i (if (s.sec i).flow = .flushing then .flushing else flowOf s i) s := by
  unfold flushTakesDrive
  rw [h]
  dsimp only
  by_cases hf : (s.sec i).flow = .flushing
  · rw [if_pos hf, if_pos hf, setFlow_same hf]
  · rw [if_neg hf, if_neg hf, judgeFlow, judgedFlow_eq]

theorem frostWith_prefix (s : State) (b : Bool) (a : Nat) : s.arb.frost <+: frostWith s b a := by
  unfold frostWith
  split
  · exact List.prefix_append ..
  · exact List.prefix_rfl

theorem mem_frostWith (s : State) (a : Nat) : a ∈ frostWith s true a := (joined_frostWith s a).all a rfl

/-- R43: the transient window that a moved valve starts. -/
def transientStarted (i : Nat) (moved : Prop) [Decidable moved] (s : State) : State :=
  if moved then s.setSec i { s.sec i with transient := (s.secCfg i).transientWindow } else s

theorem startTransient_valve {a i : Nat} {prev new : Option Nat} (h : s.valveSection a = some i) :
    startTransient a prev new s = transientStarted i (new ≠ prev) s := by
  unfold startTransient transientStarted
  rw [h]
  dsimp only
  by_cases hn : new = prev
  · rw [if_pos hn, if_neg (by simpa using hn)]
  · rw [if_neg hn, if_pos hn]

theorem transientStarted_eq (i : Nat) (moved : Prop) [Decidable moved] (s : State) :
    transientStarted i moved s = s.withSections (transientStarted i moved s).sections := by
  unfold transientStarted
  split <;> rfl

theorem transientStarted_own {i : Nat} (hi : i < 8) (moved : Prop) [Decidable moved] (s : State) :
    (transientStarted i moved s).sec i
      = { s.sec i with transient := if moved then (s.secCfg i).transientWindow else (s.sec i).transient } := by
  unfold transientStarted
  by_cases hm : moved
  · rw [if_pos hm, if_pos hm, sec_setSec_same s _ hi]
  · rw [if_neg hm, if_neg hm]

theorem transientStarted_other {i j : Nat} (hj : j ≠ i) (moved : Prop) [Decidable moved] (s : State) :
    (transientStarted i moved s).sec j = s.sec j := by
  unfold transientStarted
  split
  · exact sec_setSec_other s _ hj.symm
  · rfl

theorem waits_of_window {t : State} (h : PostsWait s) (hw : t.arb.window = s.arb.window) : PostsWait t := by
  unfold PostsWait
  rw [hw]
  exact h

theorem FlowSet.window {i : Nat} {f : Flow} {t : State} (h : FlowSet i f s t) : t.arb.window = s.arb.window := by
  rw [h.frame]
  rfl

/-- R7, R43, R47, R53: a DRIVE of a section's valve. -/
theorem handDrive_valve {a i : Nat} {prev new : Option Nat} (hv : s.valveSection a = some i) (hf : s.fanSection a = none)
    (hw : PostsWait s) :
    let x := s.sec i
    let flow : Flow := if x.flow = .flushing then .flushing
      else if (s.node a).lastSent.any (fun v => decide ((s.secCfg i).flushThreshold ≤ v)) then .opened else .parked
    let t := handDrive a prev new s
    t = { s with sections := t.sections, arb := { s.arb with frost := t.arb.frost } }
      ∧ (∀ j, j ≠ i → t.sec j = s.sec j)
      ∧ t.sec i = { x with flow := flow,
                           transient := if new = prev then x.transient else (s.secCfg i).transientWindow,
                           fanCeiling := (t.sec i).fanCeiling, valveFloor := (t.sec i).valveFloor }
      ∧ (flow ≠ x.flow → SectionDerived t i)
      ∧ (flow = x.flow → (t.sec i).fanCeiling = x.fanCeiling ∧ (t.sec i).valveFloor = x.valveFloor)
      ∧ s.arb.frost <+: t.arb.frost
      ∧ ((s.node a).health = .active →
          (s.node a).lastSent.all (fun v => decide (v < (t.sec i).valveFloor)) → a ∈ t.arb.frost) := by
  intro x flow t
  obtain ⟨hi, h0, hvalve⟩ := valveSection_spec hv
  have judged : flowOf s i
      = if (s.node a).lastSent.any (fun v => decide ((s.secCfg i).flushThreshold ≤ v)) then .opened else .parked := by
    unfold flowOf
    simp only [hvalve, ne_eq, h0, not_false_iff, true_and]
  have taken := setFlow_waits hi flow hw
  generalize hu : setFlow i flow s = u at taken
  generalize hs : transientStarted i (new ≠ prev) u = v
  have drives : t = v.withFrost (frostWith v (decide ((v.node a).health = .active) && standsOutside v a) a) := by
    have first : flushTakesDrive a s = u := by rw [flushTakesDrive_eq hv, judged, ← hu]
    have second : startTransient a prev new u = v := by
      rw [startTransient_valve (by rw [taken.frame]; exact hv), hs]
    have waits : PostsWait v := by
      rw [← hs, transientStarted_eq]
      exact waits_of_window hw taken.window
    show frostTakesDrive a prev new (flushTakesDrive a s) = _
    rw [first, frostTakesDrive, second, checkNode_waits waits]
  have frame : v = (s.withSections v.sections).withFrost u.arb.frost := by
    rw [← hs, transientStarted_eq]
    generalize (transientStarted i (new ≠ prev) u).sections = z
    rw [taken.frame]
    rfl
  have own : v.sec i = { u.sec i with transient := if new ≠ prev then (s.secCfg i).transientWindow else (u.sec i).transient } := by
    rw [← hs, transientStarted_own hi, taken.frame]
    rfl
  have secs (j : Nat) : t.sec j = v.sec j := by rw [drives]; rfl
  have node : v.node a = s.node a := by rw [frame]; rfl
  have outside : standsOutside v a = (s.node a).lastSent.all fun w => decide (w < (v.sec i).valveFloor) := by
    have hf' : v.fanSection a = none := by rw [frame]; exact hf
    have hv' : v.valveSection a = some i := by rw [frame]; exact hv
    unfold standsOutside
    rw [hf', hv', node]
  have frost : t.arb.frost = frostWith v (decide ((v.node a).health = .active) && standsOutside v a) a := by rw [drives]; rfl
  have kept : v.arb.frost = u.arb.frost := by rw [frame]; rfl
  refine ⟨?_, fun j hj => ?_, ?_, fun hne => ?_, fun he => ?_, ?_, fun hh hl => ?_⟩
  · rw [drives]
    generalize frostWith _ _ _ = q
    rw [frame]
    rfl
  · rw [secs, ← hs, transientStarted_other hj, taken.others j hj]
  · rw [secs, own, taken.own]
    by_cases hn : new = prev
    · rw [if_neg (not_not_intro hn), if_pos hn]
    · rw [if_pos hn, if_neg hn]
  · have derived := (taken.derived fun k => hne k.symm).1
    unfold SectionDerived at derived ⊢
    rw [secs, own, show t.loop = u.loop from ?_, show t.secCfg i = u.secCfg i from ?_]
    · exact derived
    · rw [drives, ← hs, transientStarted_eq]
      rfl
    · rw [drives, ← hs, transientStarted_eq]
      rfl
  · rw [secs, own, taken.same he.symm]
    exact ⟨rfl, rfl⟩
  · rw [frost]
    refine List.IsPrefix.trans ?_ (frostWith_prefix ..)
    rw [kept]
    exact taken.kept
  · rw [frost, outside, node, ← secs, hl, hh]
    exact mem_frostWith v a

/-- R7, R47: a DRIVE of a node that is no valve of a section. -/
theorem handDrive_other {a : Nat} {prev new : Option Nat} (hv : s.valveSection a = none) (hw : PostsWait s) :
    handDrive a prev new s = { s with arb := { s.arb with
      frost := frostWith s (decide ((s.node a).health = .active) && standsOutside s a) a } } := by
  unfold handDrive frostTakesDrive flushTakesDrive startTransient
  rw [hv]
  dsimp only
  rw [hv]
  dsimp only
  rw [checkNode_waits hw]
  rfl

/-- Settles O47: the valve of a section, any other node, and the pulse of a FLUSH START. -/
theorem driveHandOff : Obligations.DriveHandOff := by
  intro s hw
  refine ⟨fun a i prev new hv hf => handDrive_valve hv hf hw, fun a prev new hv => handDrive_other hv hw,
    fun i node success hi => ?_⟩
  intro c t
  refine ⟨fun h => ?_, fun hs he hv => ?_⟩
  · have stands : ¬ (success && (s.secCfg i).enabled && (s.secCfg i).valve == node) = true := by
      rcases h with h | h | h <;> simp_all [c]
    exact if_neg stands
  · have begins : t = pulseBegins i s := if_pos (by simp_all [c])
    generalize hu : s.setSec i { s.sec i with flushTimer := some (1000 * (s.secCfg i).flushDuration), blocked := false } = u
    have pulse : t = setFlow i .flushing u := by rw [begins, pulseBegins, hu]
    have waits : PostsWait u := by rw [← hu]; exact hw
    have own : u.sec i = { s.sec i with flushTimer := some (1000 * c.flushDuration), blocked := false } := by
      rw [← hu]
      exact sec_setSec_same s _ hi
    have set := setFlow_waits hi .flushing waits
    rw [← pulse] at set
    refine ⟨?_, fun j hj => ?_, ?_, fun hf => ?_⟩
    · refine set.frame.trans ?_
      rw [← hu]
      rfl
    · rw [set.others j hj, ← hu]
      exact sec_setSec_other s _ hj.symm
    · rw [set.own, own]
    · have flow : (u.sec i).flow = (s.sec i).flow := by rw [own]
      obtain ⟨derived, joined⟩ := set.derived (by rw [flow]; exact hf)
      have flushing : (t.sec i).flow = .flushing := by rw [set.own]
      have closed : (t.sec i).fanCeiling = 0 := by rw [derived.1, fanCeilingOf, if_pos flushing]
      refine ⟨closed, by rw [derived.2, valveFloorOf, if_pos (.inl flushing)], fun b hb hh hl => joined.all b (.inl ?_)⟩
      have cfg : t.secCfg i = s.secCfg i := by rw [set.frame, ← hu]; rfl
      have node : t.node b = s.node b := by rw [set.frame, ← hu]; rfl
      rw [cfg, node, closed]
      exact ⟨hb, fanOutside_iff.mpr ⟨hh, hl⟩⟩

end Drives

/-! ## The timers of a section (R54 to R56, R63) -/

section Timers
variable {s : State}

theorem exec_intervalTimerExpiry (i : Nat) (s : State) :
    exec (.intervalTimerExpiry i) s = .next (finish (intervalOver i s)) := rfl
theorem exec_flushTimerExpiry (i : Nat) (s : State) :
    exec (.flushTimerExpiry i) s = .next (finish (flushOver i s)) := rfl

/-- R55, R56: the expiry of an interval timer that runs. -/
theorem intervalExpiry_room {i : Nat} (hi : i < 8) (hr : RoomForReports s 1) :
    let x := s.sec i
    let isOverdue := x.flow ≠ .opened ∧ 7 ≤ x.balance
    intervalExpiry i s = { s with
      sections := s.sections.setIfInBounds i { x with
        balance := if x.flow = .opened then max (-3) (x.balance - 1) else min 7 (x.balance + 1),
        overdues := if isOverdue then satSucc 65535 x.overdues else x.overdues,
        interval := some (1000 * if s.loop.deepFrost then s.cfg.loop.deepInterval else s.cfg.loop.normalInterval) },
      eu := if isOverdue then unitAfter s .flushOverdue else s.eu,
      lu := { s.lu with
        reports := if isOverdue then reportsWith s [eventNow s .flushOverdue (.sec i) 0] else s.lu.reports } } := by
  intro x isOverdue
  have overdue : overdueAtExpiry x.flow x.balance = decide isOverdue := by
    simp only [overdueAtExpiry, isOverdue, Bool.decide_and]
  have restarted (y : SectionState) (t : State) (ht : t.sections = s.sections.setIfInBounds i y) :
      startInterval i t = t.withSections (s.sections.setIfInBounds i { y with interval := some (intervalLength t) }) := by
    have own : t.sec i = y := by
      unfold State.sec
      rw [ht]
      exact sec_setSec_same s y hi
    unfold startInterval State.setSec
    rw [own, ht, Vector.setIfInBounds_setIfInBounds]
  unfold intervalExpiry
  dsimp only
  rw [show s.sec i = x from rfl, overdue]
  by_cases ho : isOverdue
  · have room : RoomForReports (s.setSec i { x with
        balance := balanceAtExpiry x.flow x.balance, overdues := satSucc 65535 x.overdues }) 1 := hr
    simp only [ho, decide_true, if_true]
    rw [raise_room (by decide) room, restarted { x with
      balance := balanceAtExpiry x.flow x.balance, overdues := satSucc 65535 x.overdues } _ rfl]
    rfl
  · simp only [ho, decide_false, Bool.false_eq_true, if_false]
    rw [restarted { x with balance := balanceAtExpiry x.flow x.balance } _ rfl]
    rfl

/-- A START or an END of a section is queued where its key is. -/
theorem any_sameKey (q : List FlushRequest) (r : FlushRequest) :
    q.any (·.sameKey r) = true ↔ r.key ∈ q.map FlushRequest.key := by
  simp only [List.any_eq_true, sameKey_iff, List.mem_map]

/-- R123: a post to FLUSH that is not mandatory. -/
theorem postFlush_queue {r : FlushRequest} (hm : r.mandatory = false) (hw : PostsWait s) :
    postFlush r s = s.withArb { s.arb with
      flush := if r.key ∈ s.arb.flush.map FlushRequest.key then s.arb.flush else s.arb.flush ++ [r] } := by
  by_cases hq : r.key ∈ s.arb.flush.map FlushRequest.key
  · rw [postFlush_absorbed hm ((any_sameKey ..).mpr hq), if_pos hq]
    rfl
  · rw [postFlush_waits hw (Bool.eq_false_iff.mpr fun k => hq ((any_sameKey ..).mp k)), if_neg hq]

/-- Settles O54: an interval timer and a flush timer, stopped and running. -/
theorem sectionTimerExpiries : Obligations.SectionTimerExpiries := by
  intro i n s hi x isOverdue
  refine ⟨fun hn hs => ?_, fun hn hs hr => ?_, fun hn hs => ?_, fun hn hf hs hw => ?_⟩
  · rw [exec_intervalTimerExpiry, intervalOver, if_neg fun k => k hn, finish_of_atRest hs]
  · have runs : (s.sec i).interval ≠ none := by
      rw [show (s.sec i).interval = _ from hn]
      nofun
    rw [exec_intervalTimerExpiry, intervalOver, if_pos runs, intervalExpiry_room hi hr, finish_of_settled (by exact hs)]
    rfl
  · rw [exec_flushTimerExpiry, flushOver, if_neg fun k => k hn, finish_of_atRest hs]
  · have runs : (s.sec i).flushTimer ≠ none := by
      rw [show (s.sec i).flushTimer = _ from hn]
      nofun
    generalize hu : s.setSec i { s.sec i with balance := max (-3) ((s.sec i).balance - 1), flushTimer := none } = u
    have waits : PostsWait u := by rw [← hu]; exact hw
    have own : u.sec i = { x with balance := max (-3) (x.balance - 1), flushTimer := none } := by
      rw [← hu]
      exact sec_setSec_same s _ hi
    have set := setFlow_waits hi .parked waits
    generalize hv : setFlow i .parked u = v at set
    have frame : v = (s.withSections v.sections).withFrost v.arb.frost := by
      refine set.frame.trans ?_
      rw [← hu]
      rfl
    have completes : pulseCompletes i s = v.withArb { v.arb with
        flush := if (i, FlushKind.pulseEnd) ∈ v.arb.flush.map FlushRequest.key then v.arb.flush
          else v.arb.flush ++ [{ sec := i, kind := .pulseEnd, mandatory := false }] } := by
      unfold pulseCompletes
      dsimp only
      rw [hu, hv]
      exact postFlush_queue rfl (waits_of_window waits set.window)
    have parked : (u.sec i).flow ≠ .parked := by
      rw [own, hf]
      nofun
    obtain ⟨derived, joined⟩ := set.derived parked
    generalize ht : pulseCompletes i s = t at completes
    have flush : v.arb.flush = s.arb.flush := by rw [frame]; rfl
    rw [flush] at completes
    have whole : t = { s with sections := t.sections, arb := { s.arb with
        frost := t.arb.frost,
        flush := if (i, FlushKind.pulseEnd) ∈ s.arb.flush.map FlushRequest.key then s.arb.flush
          else s.arb.flush ++ [{ sec := i, kind := .pulseEnd, mandatory := false }] } } := by
      have withFlush (q : List FlushRequest) : v.withArb { v.arb with flush := q }
          = { s with sections := v.sections, arb := { s.arb with frost := v.arb.frost, flush := q } } := by
        rw [frame]
        rfl
      rw [completes]
      exact withFlush _
    have atRest : AtRest t := by
      rw [whole]
      exact hs
    have secs (j : Nat) : t.sec j = v.sec j := by rw [completes]; rfl
    refine ⟨t, ?_, whole, fun j hj => ?_, ?_, ?_, ?_⟩
    · rw [exec_flushTimerExpiry, flushOver, if_pos runs, ht, finish_of_atRest atRest]
    · rw [secs, set.others j hj, ← hu]
      exact sec_setSec_other s _ hj.symm
    · rw [secs, set.own, own]
    · rw [completes]
      exact derived
    · rw [completes]
      have kept := set.kept
      rw [← hu] at kept
      exact kept

end Timers

end Sys2Proof.Machine
end

section
/-! PROOFS. Work on every section in turn (R29, R30): the derivations that a change of L brings, the arrivals (R31 to R36,
R41, R42), and a field reset (R180). -/

namespace Sys2Proof.Machine

/-! ## Every section in turn -/

section Sections
variable {s t : State}

theorem setSec_setSec (s : State) (i : Nat) (x y : SectionState) : (s.setSec i x).setSec i y = s.setSec i y := by
  unfold State.setSec
  exact congrArg s.withSections (Vector.setIfInBounds_setIfInBounds ..)

theorem setSec_self {i : Nat} (hi : i < 8) (s : State) : s.setSec i (s.sec i) = s := by
  unfold State.setSec State.sec
  rw [Vector.getElem?_eq_getElem hi, Option.getD_some]
  refine congrArg s.withSections (Vector.ext fun j hj => ?_)
  rw [Vector.getElem_setIfInBounds]
  split
  · next h => subst h; rfl
  · rfl

/-- R30: a node of section `i` that stands outside the limits that a record holds. -/
def StandsBy (s : State) (i : Nat) (y : SectionState) (a : Nat) : Prop :=
  (a ∈ (s.secCfg i).fans ∧ fanOutside (s.node a) y.fanCeiling = true)
    ∨ (a = (s.secCfg i).valve ∧ a ≠ 0 ∧ floorOutside (s.node a) y.valveFloor = true)

theorem StandsBy.role {i a : Nat} {y : SectionState} (h : StandsBy s i y a) :
    a ∈ (s.secCfg i).fans ∨ (a = (s.secCfg i).valve ∧ a ≠ 0) :=
  h.imp And.left fun ⟨hv, h0, _⟩ => ⟨hv, h0⟩

/-- Overrides queued by a record's limits, as a state that holds that record sees them. -/
theorem overridesQueued_of_standsBy {i : Nat} (h : ∀ a, StandsBy s i (t.sec i) a → a ∈ t.arb.frost) :
    OverridesQueued s t i :=
  ⟨fun a ha hh hl => h a (.inl ⟨ha, fanOutside_iff.mpr ⟨hh, hl⟩⟩),
    fun h0 hh hl => h _ (.inr ⟨rfl, h0, floorOutside_iff.mpr ⟨hh, hl⟩⟩)⟩

/-- R29, R30: a derivation and its check, by the record derived. -/
theorem deriveAndCheck_joins {i : Nat} (hi : i < 8) (h : PostsWait s) :
    ∃ q, deriveAndCheck i s = (s.setSec i (derivedSec s i)).withFrost q
      ∧ Joined (StandsBy s i (derivedSec s i)) s.arb.frost q := by
  obtain ⟨q, hq, hj⟩ := deriveAndCheck_waits h i
  refine ⟨q, hq, hj.congr fun a => ?_⟩
  unfold Stands
  rw [derive_eq, sec_setSec_same s _ hi]
  exact Iff.rfl

/-- Two states that differ in the records of other sections and in the FROST queue. -/
def SameAt (i : Nat) (s t : State) : Prop := (∃ x q, t = (s.withSections x).withFrost q) ∧ t.sec i = s.sec i

/-- Work on each section in order, each on its own record and on the FROST queue. -/
theorem forSections_joins {f : Nat → State → State} {g : State → Nat → SectionState} {p : State → Nat → Nat → Prop}
    (hf : ∀ i s, i < 8 → PostsWait s →
      ∃ q, f i s = (s.setSec i (g s i)).withFrost q ∧ Joined (p s i) s.arb.frost q)
    (hg : ∀ i s t, SameAt i s t → g t i = g s i ∧ p t i = p s i) (h : PostsWait s) :
    ∃ x q, forSections f s = (s.withSections x).withFrost q
      ∧ (∀ i, i < 8 → (s.withSections x).sec i = g s i)
      ∧ Joined (fun a => ∃ i, i < 8 ∧ p s i a) s.arb.frost q := by
  have each (l : List Nat) (hl : ∀ i ∈ l, i < 8) (hn : l.Nodup) (s : State) (h : PostsWait s) :
      ∃ x q, l.foldl (fun t i => f i t) s = (s.withSections x).withFrost q
        ∧ (∀ i ∈ l, (s.withSections x).sec i = g s i) ∧ (∀ i, i ∉ l → (s.withSections x).sec i = s.sec i)
        ∧ Joined (fun a => ∃ i ∈ l, p s i a) s.arb.frost q := by
    induction l generalizing s with
    | nil =>
      exact ⟨s.sections, s.arb.frost, rfl, fun _ k => absurd k List.not_mem_nil, fun _ _ => rfl,
        Joined.refl (fun _ ⟨_, k, _⟩ => absurd k List.not_mem_nil) _⟩
    | cons i l ih =>
      have hi : i < 8 := hl i List.mem_cons_self
      obtain ⟨hil, hnl⟩ := List.nodup_cons.mp hn
      obtain ⟨q, hq, hj⟩ := hf i s hi h
      obtain ⟨x, r, hr, hin, hout, hk⟩ := ih (fun j hj => hl j (List.mem_cons_of_mem i hj)) hnl
        ((s.setSec i (g s i)).withFrost q) h
      have same {j : Nat} (hj : j ∈ l) : SameAt j s ((s.setSec i (g s i)).withFrost q) :=
        ⟨⟨_, q, rfl⟩, sec_setSec_other s _ fun k => hil (k ▸ hj)⟩
      refine ⟨x, r, by rw [List.foldl_cons, hq, hr]; rfl, fun j hj => ?_, fun j hj => ?_, (hj.trans hk).congr fun a => ?_⟩
      · rcases List.mem_cons.mp hj with rfl | hj
        · exact (hout j hil).trans (sec_setSec_same s _ hi)
        · exact (hin j hj).trans (hg j _ _ (same hj)).1
      · rw [List.mem_cons, not_or] at hj
        exact (hout j hj.2).trans (sec_setSec_other s _ (Ne.symm hj.1))
      · simp only [List.mem_cons, exists_eq_or_imp]
        refine or_congr_right (exists_congr fun j => and_congr_right fun hj => ?_)
        rw [(hg j _ _ (same hj)).2]
  obtain ⟨x, q, hx, hin, -, hj⟩ := each sectionNumbers (fun _ => mem_sectionNumbers.mp) (by decide) s h
  exact ⟨x, q, hx, fun i hi => hin i (mem_sectionNumbers.mpr hi), hj.congr fun a =>
    exists_congr fun i => and_congr_left fun _ => mem_sectionNumbers⟩

theorem derivedSec_congr {i : Nat} (h : t.sec i = s.sec i) (hc : t.cfg = s.cfg) (hl : t.loop.ceiling = s.loop.ceiling) :
    derivedSec t i = derivedSec s i := by
  unfold derivedSec State.secCfg
  rw [h, hc, hl]

/-- R29, R30: every section derived and checked. -/
theorem deriveAll_joins (h : PostsWait s) :
    ∃ x q, forSections deriveAndCheck s = (s.withSections x).withFrost q
      ∧ (∀ i, i < 8 → (s.withSections x).sec i = derivedSec s i)
      ∧ Joined (fun a => ∃ i, i < 8 ∧ StandsBy s i (derivedSec s i) a) s.arb.frost q := by
  refine forSections_joins (p := fun s i => StandsBy s i (derivedSec s i)) (fun i s hi hs => deriveAndCheck_joins hi hs)
    (fun i s t ⟨⟨x, q, ht⟩, hsec⟩ => ?_) h
  have derived : derivedSec t i = derivedSec s i := derivedSec_congr hsec (by rw [ht]; rfl) (by rw [ht]; rfl)
  refine ⟨derived, ?_⟩
  rw [derived, ht]
  rfl

end Sections

/-! ## Events that a condition brings -/

section Raised
variable {s : State}

/-- R182: the part once an event has been raised where `b` holds, with room for its report. -/
theorem raise_if (b : Prop) [Decidable b] {c : EventClass} (x : Subject) (d : Byte) (hc : c ≠ .reportLoss)
    (hr : RoomForReports s 1) :
    (if b then raise c x d s else s) = { s with
      eu := if b then unitAfter s c else s.eu,
      lu := { s.lu with reports := if b then reportsWith s [eventNow s c x d] else s.lu.reports } } := by
  by_cases hb : b
  · simp only [if_pos hb]
    exact raise_room hc hr
  · simp only [if_neg hb]

end Raised

/-! ## Arrivals (R31 to R36, R41, R42) -/

section Arrivals
variable {s : State}

/-- R32, R35: the raw ceiling by whole division. -/
theorem rawCeiling_eq (headroom : Int) (band : Nat) : rawCeiling headroom band =
    if headroom ≤ 0 then 0 else if (band : Int) ≤ headroom then 1000 else (1000 * headroom / band).toNat := by
  unfold rawCeiling
  split
  · rfl
  split
  · rfl
  next hpos _ =>
    obtain ⟨n, rfl⟩ := Int.eq_ofNat_of_zero_le (by omega : 0 ≤ headroom)
    rw [Int.toNat_natCast]
    norm_cast

theorem limitRise_eq (r prev rise : Nat) : limitRise r prev rise = if r ≤ prev then r else min r (prev + rise) := by
  unfold limitRise
  by_cases h : r ≤ prev
  · rw [if_neg (by omega), if_pos h]
  · rw [if_pos (by omega), if_neg h]

theorem outletSection_spec {a i : Nat} (h : s.outletSection a = some i) : i < 8 :=
  mem_sectionNumbers.mp (List.mem_of_find?_eq_some h)

theorem newCeiling_eq (c : SectionCfg) (x : SectionState) (freezePoint v : Int) : newCeiling c x freezePoint v =
    let r := (fun (headroom : Int) (band : Nat) =>
        if headroom ≤ 0 then 0 else if (band : Int) ≤ headroom then 1000 else (1000 * headroom / band).toNat)
      (v - freezePoint - (if x.transient = 0 then c.nominalMargin else c.transientMargin : Nat)) c.band
    if r ≤ x.ceiling then r else min r (x.ceiling + c.riseLimit) := by
  have margin : marginInEffect c x = if x.transient = 0 then c.nominalMargin else c.transientMargin := by
    unfold marginInEffect
    by_cases h : x.transient = 0
    · rw [if_neg (by omega), if_pos h]
    · rw [if_pos (by omega), if_neg h]
  unfold newCeiling
  rw [limitRise_eq, rawCeiling_eq, margin]

/-- R31 to R34: an arrival at the outlet of section `i`, with room for its event. -/
theorem sectionArrival_spec {i : Nat} (hi : i < 8) (v : Int) (hr : RoomForReports s 1) (hw : PostsWait s) :
    let x := s.sec i
    let new := newCeiling (s.secCfg i) x s.cfg.loop.freezePoint v
    let stop := 0 < x.ceiling ∧ new = 0
    let y := derivedSec (s.setSec i { x with sight := .seen, ceiling := new }) i
    ∃ q, sectionArrival i v s = { s with
        sections := s.sections.setIfInBounds i y, arb := { s.arb with frost := q },
        eu := if stop then unitAfter s .frostStop else s.eu,
        lu := { s.lu with
          reports := if stop then reportsWith s [eventNow s .frostStop (.sec i) 0] else s.lu.reports } }
      ∧ Joined (StandsBy s i y) s.arb.frost q := by
  intro x new stop y
  obtain ⟨q, hq, hj⟩ := deriveAndCheck_joins (s := s.setSec i { x with sight := .seen, ceiling := new }) hi hw
  refine ⟨q, ?_, hj⟩
  unfold sectionArrival
  dsimp only
  rw [show newCeiling _ _ _ _ = new from rfl, show s.sec i = x from rfl, hq, setSec_setSec]
  exact raise_if (s := (s.setSec i y).withFrost q) stop (.sec i) 0 (by decide) hr

/-- R28, R36, R40: what a change of L brings, and what it brings where L stands. -/
theorem afterLoopCeiling_joins (before : Nat) (h : PostsWait s) :
    ∃ x q, afterLoopCeiling before s = (s.withSections x).withFrost q
      ∧ (s.loop.ceiling = before → x = s.sections ∧ q = s.arb.frost)
      ∧ (s.loop.ceiling ≠ before → (∀ i, i < 8 → (s.withSections x).sec i = derivedSec s i)
          ∧ Joined (fun a => ∃ i, i < 8 ∧ StandsBy s i (derivedSec s i) a) s.arb.frost q) := by
  unfold afterLoopCeiling
  by_cases hb : s.loop.ceiling = before
  · rw [if_neg (not_not_intro hb)]
    exact ⟨s.sections, s.arb.frost, rfl, fun _ => ⟨rfl, rfl⟩, fun k => absurd hb k⟩
  · obtain ⟨x, q, hx, hsec, hj⟩ := deriveAll_joins h
    rw [if_pos hb]
    exact ⟨x, q, hx, fun k => absurd k hb, fun _ => ⟨hsec, hj⟩⟩

/-- R35, R36: an arrival of the supply, with room for its event. -/
theorem supplyArrival_spec (v : Int) (hr : RoomForReports s 1) (hw : PostsWait s) :
    let new := newLoopCeiling s.cfg.loop s.loop.ceiling v
    let stop := 0 < s.loop.ceiling ∧ new = 0
    let u := s.withLoop { s.loop with supplySight := .seen, ceiling := new }
    ∃ x q, supplyArrival v s = { s with
        sections := x, arb := { s.arb with frost := q }, loop := { s.loop with supplySight := .seen, ceiling := new },
        eu := if stop then unitAfter s .frostStop else s.eu,
        lu := { s.lu with
          reports := if stop then reportsWith s [eventNow s .frostStop (.node s.cfg.loop.supply) 0] else s.lu.reports } }
      ∧ (new = s.loop.ceiling → x = s.sections ∧ q = s.arb.frost)
      ∧ (new ≠ s.loop.ceiling → (∀ i, i < 8 → (s.withSections x).sec i = derivedSec u i)
          ∧ Joined (fun a => ∃ i, i < 8 ∧ StandsBy s i (derivedSec u i) a) s.arb.frost q) := by
  intro new stop u
  obtain ⟨x, q, hx, hsame, hmoved⟩ := afterLoopCeiling_joins (s := u) s.loop.ceiling hw
  refine ⟨x, q, ?_, hsame, hmoved⟩
  unfold supplyArrival
  dsimp only
  rw [show newLoopCeiling _ _ _ = new from rfl, show s.withLoop _ = u from rfl, hx]
  exact raise_if (s := (u.withSections x).withFrost q) stop (.node s.cfg.loop.supply) 0 (by decide) hr

theorem handArrival_outlet {a i : Nat} {v : Int} (h : s.outletSection a = some i) :
    handArrival a v s = if (s.secCfg i).enabled = true then sectionArrival i v s else s := by
  unfold handArrival
  rw [h]

theorem handArrival_loop {a : Nat} {v : Int} (h : s.outletSection a = none) :
    handArrival a v s = if s.cfg.loop.supply = a then supplyArrival v s
      else if s.cfg.loop.ambient = a then ambientArrival v s
      else if s.cfg.loop.ret = a then returnArrival v s else s := by
  unfold handArrival
  rw [h]

/-- Settles O46: an arrival by the role of its node. -/
theorem arrivalHandOff : Obligations.ArrivalHandOff := by
  intro a v s hr hw raw limited
  refine ⟨fun i hi he => ?_, fun i hi he => ?_, fun ho hs => ?_, fun ho hs ha => ?_, fun ho hs ha hret => ?_,
    fun ho hs ha hret => ?_⟩
  · rw [handArrival_outlet hi, if_neg (by rw [he]; nofun)]
  · intro c x new stop t
    have i8 := outletSection_spec hi
    obtain ⟨q, hq, hj⟩ := sectionArrival_spec i8 v hr hw
    rw [newCeiling_eq] at hq hj
    have eq : t = _ := ((handArrival_outlet hi).trans (if_pos he)).trans hq
    generalize hy : derivedSec (s.setSec i { x with sight := .seen, ceiling := new }) i = y at hj
    have own : t.sec i = y := by
      rw [eq, ← hy]
      exact sec_setSec_same s _ i8
    have set : (s.setSec i { x with sight := .seen, ceiling := new }).sec i = { x with sight := .seen, ceiling := new } :=
      sec_setSec_same s _ i8
    have frost : t.arb.frost = q := by rw [eq]
    refine ⟨?_, ?_, ?_, fun j hj => ?_, ?_, ?_, fun b hb => ?_⟩
    · rw [eq]
    · rw [own, ← hy]
      unfold derivedSec
      rw [set]
    · refine sectionDerived_of_sec (own.trans hy.symm) ?_ ?_ <;> rw [eq] <;> rfl
    · rw [eq]
      exact sec_setSec_other s _ hj.symm
    · rw [frost]
      exact hj.kept
    · refine overridesQueued_of_standsBy fun b hb => ?_
      rw [own] at hb
      rw [frost]
      exact hj.all b hb
    · rw [own]
      rw [frost] at hb
      refine (hj.only b hb).imp_right (Or.imp (fun ⟨hm, ho⟩ => ?_) fun ⟨hm, h0, ho⟩ => ?_)
      · exact ⟨hm, fanOutside_iff.mp ho⟩
      · exact ⟨hm, h0, floorOutside_iff.mp ho⟩
  · intro new stop t
    obtain ⟨x, q, hq, hsame, hmoved⟩ := supplyArrival_spec v hr hw
    have ceiling : newLoopCeiling s.cfg.loop s.loop.ceiling v = new := by
      rw [newLoopCeiling, limitRise_eq, rawCeiling_eq]
    rw [ceiling] at hq hsame hmoved
    have eq : t = _ := ((handArrival_loop ho).trans (if_pos hs)).trans hq
    have frost : t.arb.frost = q := by rw [eq]
    have sections : t.sections = x := by rw [eq]
    refine ⟨?_, fun hn => ?_, fun hn i hi => ?_, ?_, fun b hb => ?_⟩
    · rw [eq, hs]
    · rw [sections, frost]
      exact hsame hn
    · obtain ⟨hsec, hj⟩ := hmoved hn
      have own : t.sec i = derivedSec (s.withLoop { s.loop with supplySight := .seen, ceiling := new }) i := by
        rw [← hsec i hi, eq]
        rfl
      refine ⟨sectionDerived_of_sec own (by rw [eq]; rfl) (by rw [eq]; rfl), overridesQueued_of_standsBy fun b hb => ?_, ?_⟩
      · rw [frost]
        rw [own] at hb
        exact hj.all b ⟨i, hi, hb⟩
      · rw [own]
        rfl
    · rw [frost]
      by_cases hn : new = s.loop.ceiling
      · rw [(hsame hn).2]
      · exact (hmoved hn).2.kept
    · rw [frost] at hb
      by_cases hn : new = s.loop.ceiling
      · rw [(hsame hn).2] at hb
        exact .inl hb
      · exact ((hmoved hn).2.only b hb).imp_right fun ⟨i, hi, hst⟩ => ⟨i, hi, hst.role⟩
  · rw [handArrival_loop ho, if_neg hs, if_pos ha]
    rfl
  · rw [handArrival_loop ho, if_neg hs, if_neg ha, if_pos hret]
    rfl
  · rw [handArrival_loop ho, if_neg hs, if_neg ha, if_neg hret]

end Arrivals

end Sys2Proof.Machine
end

section
/-! PROOFS. RESET FIELD (R180) and the start-up from an image that is valid (R156). -/

namespace Sys2Proof.Machine

/-! ## A request that sends the walk on -/

section Walking
variable {s u t : State}

/-- R162: the Link Unit of `s` with the response to a request waiting. -/
def responding (s : State) (kind tag : Byte) (code : ResultCode) (data : List Byte) : LinkUnit :=
  { frameTaken s with responses := (frameTaken s).responses ++
    [{ tag := tag, kind := kind, code := code, data := data, powerOn := false }] }

theorem sendIfFree_responding (s : State) (kind tag : Byte) (code : ResultCode) (data : List Byte) :
    sendIfFree (responding s kind tag code data) = answered s kind tag code data := rfl

/-- A request whose execution leaves moves to be made: they are made once the response is in its queue. -/
theorem request_leads {kind tag : Byte} {idle : List Byte} {body : State → Served} {code : ResultCode}
    {data : List Byte} {n : Nat} (h : Ready s)
    (hb : body (s.withLu (frameTaken s)) = (u.withLu (frameTaken s), some (.plain code data)))
    (hl : Leads n (u.withLu (responding s kind tag code data)) t) (hn : n ≤ 1024) (ht : Settled t) :
    request kind tag idle body s = t.withLu (sendIfFree t.lu) := by
  rw [request_ready h, hb]
  exact finish_leads hl hn ht

end Walking

/-! ## RESET FIELD -/

section FieldResets
variable {s t : State}

theorem exec_resetField (tag : Byte) (s : State) :
    exec (.resetField tag) s = .next (request kindCommand tag [codeReset] serveResetField s) := rfl

theorem abandonExchange_eq (s : State) : abandonExchange s = s.withXe { s.xe with
    flight := none,
    idleLeft := match s.xe.flight with
      | some f => if f.phase = .idle then s.xe.idleLeft else 120
      | none => s.xe.idleLeft } := by
  unfold abandonExchange
  cases hf : s.xe.flight with
  | none =>
    have stays : ({ s.xe with flight := none } : ExchangeEngine) = s.xe := by rw [← hf]
    exact (congrArg s.withXe stays).symm
  | some f => rfl

/-- R67, R29: the record of a section whose running pulse has ended, and any other record as it stands. -/
def pulseJudged (s : State) (i : Nat) : SectionState :=
  if (s.sec i).flow = .flushing then
    { s.sec i with
      flow := flowOf s i, flushTimer := none, fanCeiling := fanCeilingOf (flowOf s i) (s.sec i).ceiling s.loop.ceiling,
      valveFloor := valveFloorOf (flowOf s i) (s.sec i).sight (s.secCfg i).valveMin (s.sec i).ceiling }
  else s.sec i

theorem flowOf_ne_flushing (s : State) (i : Nat) : flowOf s i ≠ .flushing := by
  unfold flowOf
  split <;> nofun

theorem endRunningPulse_joins {i : Nat} (hi : i < 8) (h : PostsWait s) :
    ∃ q, endRunningPulse i s = (s.setSec i (pulseJudged s i)).withFrost q
      ∧ Joined (fun a => (s.sec i).flow = .flushing ∧ StandsBy s i (pulseJudged s i) a) s.arb.frost q := by
  unfold endRunningPulse pulseJudged
  by_cases hf : (s.sec i).flow = .flushing
  · rw [if_pos hf, if_pos hf]
    have own : (s.setSec i { s.sec i with flushTimer := none }).sec i = { s.sec i with flushTimer := none } :=
      sec_setSec_same s _ hi
    obtain ⟨q, hq, hj⟩ := deriveAndCheck_joins (s := s.setSec i { s.sec i with flow := flowOf s i, flushTimer := none }) hi h
    unfold derivedSec at hq hj
    rw [sec_setSec_same s _ hi] at hq hj
    refine ⟨q, ?_, hj.congr fun a => (and_iff_right hf).symm⟩
    have judged : endPulse i s = deriveAndCheck i (s.setSec i { s.sec i with flow := flowOf s i, flushTimer := none }) := by
      unfold endPulse judgeFlow
      rw [judgedFlow_eq, setFlow_changed, own, setSec_setSec]
      · rfl
      · rw [own, show flowOf (s.setSec i _) i = flowOf s i from rfl]
        exact hf.trans_ne (flowOf_ne_flushing s i).symm
    rw [judged, hq, setSec_setSec]
    rfl
  · rw [if_neg hf, if_neg hf, setSec_self hi]
    exact ⟨s.arb.frost, rfl, Joined.refl (fun _ k => hf k.1) _⟩

theorem pulseJudged_congr {i : Nat} (h : SameAt i s t) : pulseJudged t i = pulseJudged s i := by
  obtain ⟨⟨x, q, rfl⟩, hsec⟩ := h
  unfold pulseJudged
  rw [hsec]
  rfl

/-- R92, R125, R67: what a field reset leaves before it reaches the sequencer. -/
theorem fieldReset_ended (s : State) :
    ∃ x q, forSections endRunningPulse ((abandonExchange s).withArb .powerOn)
        = { s with xe := (abandonExchange s).xe, sections := x, arb := { Arbiter.powerOn with frost := q } }
      ∧ (∀ i, i < 8 → (s.withSections x).sec i = pulseJudged s i)
      ∧ Joined (fun a => ∃ i, i < 8 ∧ (s.sec i).flow = .flushing ∧ StandsBy s i (pulseJudged s i) a) [] q := by
  have waits : PostsWait ((abandonExchange s).withArb .powerOn) := rfl
  obtain ⟨x, q, hx, hsec, hj⟩ := forSections_joins (f := endRunningPulse)
    (p := fun s i a => (s.sec i).flow = .flushing ∧ StandsBy s i (pulseJudged s i) a)
    (fun i s hi hs => endRunningPulse_joins hi hs)
    (fun i s t h => ⟨pulseJudged_congr h, by
      rw [pulseJudged_congr h, h.2]
      obtain ⟨⟨x, q, rfl⟩, -⟩ := h
      rfl⟩) waits
  rw [abandonExchange_eq] at hx hsec hj ⊢
  exact ⟨x, q, hx, hsec, hj⟩

/-- R99: the sequencer once a field reset has reached it, where slot 0 is a GAP. -/
def walkReset (s : State) : Sequencer :=
  match s.seq.state with
  | .running => gapReached { restingAs s.seq .running with current := 0 } 0 (s.slot 0).time
  | .stopping => restingAs s.seq .idle
  | .idle => s.seq
  | .halted => s.seq

/-- R180, R99: a field reset ends where its walk stands. -/
theorem exec_resetField_gap (tag : Byte) (h : Ready s) (hg : s.seq.state = .running → (s.slot 0).kind = .gap) :
    ∃ x q, exec (.resetField tag) s = .next { s with
          xe := (abandonExchange s).xe, sections := x, arb := { Arbiter.powerOn with frost := q }, seq := walkReset s,
          lu := answered s kindCommand tag .ok [9] }
      ∧ (∀ i, i < 8 → (s.withSections x).sec i = pulseJudged s i)
      ∧ Joined (fun a => ∃ i, i < 8 ∧ (s.sec i).flow = .flushing ∧ StandsBy s i (pulseJudged s i) a) [] q := by
  obtain ⟨x, q, hx, hsec, hj⟩ := fieldReset_ended (s.withLu (frameTaken s))
  refine ⟨x, q, ?_, hsec, hj⟩
  rw [exec_resetField]
  rw [show (abandonExchange (s.withLu (frameTaken s))).xe = (abandonExchange s).xe by
    rw [abandonExchange_eq, abandonExchange_eq]; rfl] at hx
  generalize hv : ({ s.withLu (frameTaken s) with
    xe := (abandonExchange s).xe, sections := x, arb := { Arbiter.powerOn with frost := q } } : State) = v at hx
  have served : serveResetField (s.withLu (frameTaken s)) = (resetWalk v, some (.plain .ok [9])) := by
    unfold serveResetField fieldReset
    rw [hx]
    rfl
  have seq : v.seq = s.seq := by rw [← hv]; rfl
  have due : v.arb.due = false := by rw [← hv]; rfl
  have resumes : s.seq.resume = none := h.2.2.2.1
  by_cases hr : s.seq.state = .running
  · have launched : resetWalk v = v.withSeq (s.seq.launch 0) := by
      unfold resetWalk
      rw [seq, hr]
    rw [launched] at served
    have moves : Leads 1 ((v.withSeq (s.seq.launch 0)).withLu (responding s kindCommand tag .ok [9])) _ :=
      .one (settleOnce_resume due rfl)
    have kind : (s.slot 0).kind = .gap := hg hr
    rw [reachSlot_gap (by rw [← hv]; exact kind)] at moves
    have link : v.lu = frameTaken s := by rw [← hv]; rfl
    rw [request_leads (u := v.withSeq (s.seq.launch 0)) h (by rw [served, ← link]; rfl) moves (by decide) ⟨rfl, due⟩]
    have walk : walkReset s = gapReached { s.seq.launch 0 with resume := none } 0 (s.slot 0).time := by
      unfold walkReset
      rw [hr, ← resumes]
      rfl
    rw [walk, ← hv]
    rfl
  · have stands : resetWalk v = v.withSeq (walkReset s) := by
      unfold resetWalk walkReset enterIdle
      rw [seq]
      cases hst : s.seq.state with
      | running => exact absurd hst hr
      | stopping =>
        unfold restingAs
        exact congrArg v.withSeq (by rw [resumes]; rfl)
      | idle => exact congrArg v.withSeq seq
      | halted => exact congrArg v.withSeq seq
    have rests : (walkReset s).resume = none := by
      unfold walkReset
      cases hst : s.seq.state with
      | running => exact absurd hst hr
      | stopping | idle | halted => exact resumes
    rw [stands] at served
    rw [request_answered h served ⟨rests, due⟩, ← hv]
    rfl

end FieldResets

end Sys2Proof.Machine

namespace Sys2Proof
open Machine

/-- Settles O41: the sections by the records that the ended pulses leave, the walk as R99 has it. -/
theorem fieldReset : Obligations.FieldReset := by
  intro tag s h hg flow
  obtain ⟨x, q, hx, hsec, hj⟩ := exec_resetField_gap tag h hg
  refine ⟨_, hx, ?_, fun i hi hf => ?_, fun i hi hf => ?_, fun a ha => ?_⟩
  · rw [abandonExchange_eq]
    unfold walkReset
    cases hst : s.seq.state <;> rfl
  · exact (hsec i hi).trans (if_neg hf)
  · have own := (hsec i hi).trans (if_pos hf)
    refine ⟨?_, ?_, fun a ha hh hl => ?_⟩
    · show SectionDerived (s.withSections x) i
      unfold SectionDerived
      rw [own]
      exact ⟨rfl, rfl⟩
    · show (s.withSections x).sec i = { s.sec i with
        flow := flow i, flushTimer := none, fanCeiling := ((s.withSections x).sec i).fanCeiling,
        valveFloor := ((s.withSections x).sec i).valveFloor }
      rw [own]
      rfl
    · refine hj.all a ⟨i, hi, hf, .inl ⟨ha, fanOutside_iff.mpr ⟨hh, ?_⟩⟩⟩
      rw [← hsec i hi]
      exact hl
  · obtain ⟨i, hi, hf, hs⟩ := (hj.only a ha).resolve_left List.not_mem_nil
    exact ⟨i, hi, hf, hs.role.imp_right And.left⟩

end Sys2Proof
end

section
/-! PROOFS. SECTION and LOOP entries that are accepted (R24, R66, R28). -/

namespace Sys2Proof.Machine

/-! ## Work on the record of one section -/

section OneSection
variable {s t u : State} {i : Nat}

/-- What work on section `i` leaves: its own record may have moved, and nodes of its roles have joined FROST. -/
structure SectionWorked (i : Nat) (s t : State) : Prop where
  frame : t = (s.withSections t.sections).withFrost t.arb.frost
  others : ∀ j, j ≠ i → t.sec j = s.sec j
  kept : s.arb.frost <+: t.arb.frost
  only : ∀ a ∈ t.arb.frost, a ∈ s.arb.frost ∨ a ∈ (s.secCfg i).fans ∨ (a = (s.secCfg i).valve ∧ a ≠ 0)

/-- A record but for the limits that derive from it. -/
def limitless (x : SectionState) : SectionState := { x with fanCeiling := 0, valveFloor := 0 }

theorem eq_of_limitless {x y : SectionState} (h : limitless x = limitless y) (he : y.fanCeiling = x.fanCeiling)
    (hv : y.valveFloor = x.valveFloor) : x = y := by
  have same := congrArg (fun z : SectionState => { z with fanCeiling := x.fanCeiling, valveFloor := x.valveFloor }) h
  rw [← he, ← hv] at same
  have left : { limitless x with fanCeiling := y.fanCeiling, valveFloor := y.valveFloor } = x := by rw [he, hv]; rfl
  exact left.symm.trans same

theorem limitless_derivedSec (s : State) (i : Nat) : limitless (derivedSec s i) = limitless (s.sec i) := rfl

theorem SectionWorked.refl (s : State) : SectionWorked i s s :=
  ⟨rfl, fun _ _ => rfl, List.prefix_rfl, fun _ => .inl⟩

theorem SectionWorked.secCfg (h : SectionWorked i s t) (j : Nat) : t.secCfg j = s.secCfg j := by
  rw [h.frame]
  rfl

theorem SectionWorked.node (h : SectionWorked i s t) (a : Nat) : t.node a = s.node a := by
  rw [h.frame]
  rfl

theorem SectionWorked.waits (h : SectionWorked i s t) (hw : PostsWait s) : PostsWait t := by
  rw [h.frame]
  exact hw

theorem SectionWorked.trans (h : SectionWorked i s t) (k : SectionWorked i t u) : SectionWorked i s u where
  frame := by
    rw [k.frame, h.frame]
    rfl
  others j hj := (k.others j hj).trans (h.others j hj)
  kept := h.kept.trans k.kept
  only a ha := by
    rcases k.only a ha with ha | ha
    · exact h.only a ha
    · rw [h.secCfg] at ha
      exact .inr ha

theorem SectionWorked.setSec (s : State) (i : Nat) (x : SectionState) : SectionWorked i s (s.setSec i x) :=
  ⟨rfl, fun _ hj => sec_setSec_other s _ hj.symm, List.prefix_rfl, fun _ => .inl⟩

theorem deriveAndCheck_worked (hi : i < 8) (hw : PostsWait s) :
    SectionWorked i s (deriveAndCheck i s) ∧ limitless ((deriveAndCheck i s).sec i) = limitless (s.sec i) := by
  obtain ⟨q, hq, hj⟩ := deriveAndCheck_joins hi hw
  rw [hq]
  exact ⟨⟨rfl, fun j hji => sec_setSec_other s _ hji.symm, hj.kept, fun a ha => (hj.only a ha).imp_right StandsBy.role⟩,
    (congrArg limitless (sec_setSec_same s (derivedSec s i) hi)).trans (limitless_derivedSec s i)⟩

theorem setFlow_worked (hi : i < 8) (f : Flow) (hw : PostsWait s) :
    SectionWorked i s (setFlow i f s) ∧ limitless ((setFlow i f s).sec i) = { limitless (s.sec i) with flow := f } := by
  by_cases hf : (s.sec i).flow = f
  · rw [setFlow_same hf, ← hf]
    exact ⟨.refl s, rfl⟩
  · rw [setFlow_changed hf]
    obtain ⟨worked, own⟩ := deriveAndCheck_worked (s := s.setSec i { s.sec i with flow := f }) hi hw
    rw [sec_setSec_same s _ hi] at own
    exact ⟨(SectionWorked.setSec s i _).trans worked, own⟩

end OneSection

/-! ## SECTION entries (R24, R66) -/

section SectionEntries
variable {s : State} {i : Nat} {was c : SectionCfg}

theorem sectionTimer_worked (hi : i < 8) (was c : SectionCfg) (s : State) :
    SectionWorked i s (sectionTimer i was c s)
      ∧ limitless ((sectionTimer i was c s).sec i) = { limitless (s.sec i) with
        interval := if was.enabled = false ∧ c.enabled = true then some (intervalLength s)
          else if was.enabled = true ∧ c.enabled = false then none else (s.sec i).interval } := by
  unfold sectionTimer startInterval
  by_cases hn : was.enabled = false ∧ c.enabled = true
  · rw [if_pos hn, if_pos hn, sec_setSec_same s _ hi]
    exact ⟨.setSec s i _, rfl⟩
  rw [if_neg hn, if_neg hn]
  by_cases hd : was.enabled = true ∧ c.enabled = false
  · rw [if_pos hd, if_pos hd, sec_setSec_same s _ hi]
    exact ⟨.setSec s i _, rfl⟩
  · rw [if_neg hd, if_neg hd]
    exact ⟨.refl s, rfl⟩

theorem sectionFlow_worked (hi : i < 8) (was c : SectionCfg) (hw : PostsWait s) :
    let x := s.sec i
    let disabling := was.enabled = true ∧ c.enabled = false
    let pulseEnds := x.flow = .flushing ∧ (disabling ∨ was.enabled = true ∧ c.valve ≠ was.valve)
    let judged := x.flow ≠ .flushing
      ∧ ((was.enabled = false ∧ c.enabled = true) ∨ c.valve ≠ was.valve ∨ c.flushThreshold ≠ was.flushThreshold)
    SectionWorked i s (sectionFlow i was c s)
      ∧ limitless ((sectionFlow i was c s).sec i) = { limitless x with
          flow := if pulseEnds ∨ judged then flowOf s i else x.flow,
          flushTimer := if pulseEnds then none else x.flushTimer } := by
  intro x disabling pulseEnds judged
  have judge (s : State) (hw : PostsWait s) : SectionWorked i s (judgeFlow i s)
      ∧ limitless ((judgeFlow i s).sec i) = { limitless (s.sec i) with flow := flowOf s i } := by
    unfold judgeFlow
    rw [judgedFlow_eq]
    exact setFlow_worked hi _ hw
  have ends : pulseEnded was c = true ↔ (disabling ∨ was.enabled = true ∧ c.valve ≠ was.valve) := by
    unfold pulseEnded disabling
    simp [and_or_left]
  have brings : flowRejudged was c = true ↔
      ((was.enabled = false ∧ c.enabled = true) ∨ c.valve ≠ was.valve ∨ c.flushThreshold ≠ was.flushThreshold) := by
    unfold flowRejudged
    simp [or_assoc]
  unfold sectionFlow
  by_cases hf : x.flow = .flushing
  · have unjudged : ¬ judged := fun k => k.1 hf
    rw [if_pos hf]
    by_cases he : pulseEnds
    · rw [if_pos (ends.mpr he.2)]
      simp only [if_pos he, if_pos (Or.inl he : pulseEnds ∨ judged)]
      obtain ⟨worked, own⟩ := judge (s.setSec i { x with flushTimer := none }) hw
      rw [sec_setSec_same s _ hi] at own
      exact ⟨(SectionWorked.setSec s i _).trans worked, own⟩
    · rw [if_neg fun k => he ⟨hf, ends.mp k⟩]
      simp only [if_neg he, if_neg (fun k => k.elim he unjudged : ¬ (pulseEnds ∨ judged))]
      exact ⟨.refl s, rfl⟩
  · have runs : ¬ pulseEnds := fun k => hf k.1
    rw [if_neg hf]
    by_cases hj : judged
    · rw [if_pos (brings.mpr hj.2)]
      simp only [if_neg runs, if_pos (Or.inr hj : pulseEnds ∨ judged)]
      exact judge s hw
    · rw [if_neg fun k => hj ⟨hf, brings.mp k⟩]
      simp only [if_neg runs, if_neg (fun k => k.elim runs hj : ¬ (pulseEnds ∨ judged))]
      exact ⟨.refl s, rfl⟩

/-- R39: a section that enters BLIND, with room for its event. -/
theorem enterBlind_worked (hi : i < 8) (hw : PostsWait s) (hr : RoomForReports s 1) :
    let v := ({ s with eu := unitAfter s .blind,
                       lu := { s.lu with reports := reportsWith s [eventNow s .blind (.sec i) 0] } } : State)
    SectionWorked i v (enterBlind i s)
      ∧ limitless ((enterBlind i s).sec i)
        = { limitless (s.sec i) with sight := .blind, ceiling := min (s.sec i).ceiling (s.secCfg i).blindCeiling } := by
  intro v
  obtain ⟨q, hq, hj⟩ := deriveAndCheck_joins
    (s := s.setSec i { s.sec i with sight := .blind, ceiling := min (s.sec i).ceiling (s.secCfg i).blindCeiling }) hi hw
  have own := sec_setSec_same s
    { s.sec i with sight := .blind, ceiling := min (s.sec i).ceiling (s.secCfg i).blindCeiling } hi
  have derived := limitless_derivedSec
    (s.setSec i { s.sec i with sight := .blind, ceiling := min (s.sec i).ceiling (s.secCfg i).blindCeiling }) i
  rw [own] at derived
  unfold enterBlind
  dsimp only
  rw [hq, setSec_setSec]
  generalize derivedSec _ i = y at hj derived
  have raised : raise .blind (.sec i) 0 ((s.setSec i y).withFrost q) = (v.setSec i y).withFrost q :=
    raise_room (s := (s.setSec i y).withFrost q) (by decide) hr
  rw [raised]
  refine ⟨⟨rfl, fun j hji => sec_setSec_other s _ hji.symm, hj.kept, fun a ha => (hj.only a ha).imp_right StandsBy.role⟩, ?_⟩
  rw [show ((v.setSec i y).withFrost q).sec i = y from sec_setSec_same s _ hi]
  exact derived

/-- R24: the frost state of the section, with room for its event. -/
theorem sectionFrost_worked (hi : i < 8) (was c : SectionCfg) (hc : s.secCfg i = c) (hw : PostsWait s)
    (hr : RoomForReports s 1) :
    let x := s.sec i
    let disabling := was.enabled = true ∧ c.enabled = false
    let blinded := was.enabled = true ∧ c.enabled = true ∧ c.outlet ≠ was.outlet ∧ x.sight ≠ .blind
    let v : State := { s with
      eu := if blinded then unitAfter s .blind else s.eu,
      lu := { s.lu with reports := if blinded then reportsWith s [eventNow s .blind (.sec i) 0] else s.lu.reports } }
    SectionWorked i v (sectionFrost i was c s)
      ∧ limitless ((sectionFrost i was c s).sec i) = { limitless x with
          sight := if disabling ∨ blinded then .blind else x.sight,
          ceiling := if disabling then 0
            else if blinded ∨ (c.blindCeiling ≠ was.blindCeiling ∧ x.sight = .blind)
              then min x.ceiling c.blindCeiling else x.ceiling,
          transient := if disabling then 0 else x.transient } := by
  intro x disabling blinded v
  have plain (hb : ¬ blinded) : v = s := by
    unfold v
    simp only [if_neg hb]
  unfold sectionFrost
  by_cases hd : disabling
  · have hb : ¬ blinded := fun k => absurd (hd.2.symm.trans k.2.1) (by decide)
    rw [plain hb, if_pos hd, disableFrost, sec_setSec_same s _ hi]
    simp only [if_pos hd, if_pos (Or.inl hd : disabling ∨ blinded)]
    exact ⟨.setSec s i _, rfl⟩
  rw [if_neg hd]
  simp only [if_neg hd]
  by_cases hb : blinded
  · obtain ⟨worked, own⟩ := enterBlind_worked hi hw hr
    have raised : v = { s with
        eu := unitAfter s .blind,
        lu := { s.lu with reports := reportsWith s [eventNow s .blind (.sec i) 0] } } := by
      unfold v
      simp only [if_pos hb]
    rw [raised, if_pos hb]
    rw [hc] at own
    simp only [if_pos (Or.inr hb : disabling ∨ blinded), if_pos (Or.inl hb : blinded ∨ _)]
    exact ⟨worked, own⟩
  · have stands : ¬ (disabling ∨ blinded) := fun k => k.elim hd hb
    rw [plain hb, if_neg hb, blindCeilingWritten]
    simp only [if_neg stands]
    simp only [hb, false_or]
    by_cases hcut : c.blindCeiling ≠ was.blindCeiling ∧ x.sight = .blind
    · rw [if_pos hcut, if_pos hcut, sec_setSec_same s _ hi]
      exact ⟨.setSec s i _, rfl⟩
    · rw [if_neg hcut, if_neg hcut]
      exact ⟨.refl s, rfl⟩

/-- R22, R24, R66: an accepted SECTION entry, by its record, its frost state, its timer and its flow. -/
theorem sectionEntry_judged (e : SectionEntry) (hi : i < 8) (hs : s.store.state ≠ .writing)
    (he : sectionOfEntry e = some c) : judgeEntry sectionRules i e s
      = if sectionRolesOk s i c = true then .inr (writeSection i c s) else .inl .badValue := by
  have judged : judgeEntry sectionRules i e s = match applySection i e s with
      | some t => .inr t
      | none => .inl .badValue := judgeEntry_applied e (Nat.zero_le i) (by exact Nat.le_of_lt_succ hi) hs (absurd · (by decide))
  rw [judged, applySection, he]
  dsimp only
  by_cases hk : sectionRolesOk s i c = true
  · rw [if_pos hk, if_pos hk]
  · rw [if_neg hk, if_neg hk]

theorem secCfg_writeSectionCfg (s : State) (c : SectionCfg) (hi : i < 8) : (writeSectionCfg i c s).secCfg i = c := by
  unfold writeSectionCfg State.secCfg
  show ((s.cfg.sections.setIfInBounds i c)[i]?).getD _ = c
  rw [Vector.getElem?_eq_getElem hi, Vector.getElem_setIfInBounds_self]
  rfl

/-- Settles O31: the record's blocks in order, and the closing derivation. -/
theorem sectionEntryWritten : Obligations.SectionEntryWritten := by
  intro i e c s hi hs he hw hr
  refine ⟨fun hk => by rw [sectionEntry_judged e hi hs he, if_neg (by rw [hk]; nofun)], fun hk => ?_⟩
  intro was x enabling disabling blinded pulseEnds judged flow
  refine ⟨writeSection i c s, by rw [sectionEntry_judged e hi hs he, if_pos hk], ?_⟩
  have record : (writeSectionCfg i c s).secCfg i = c := secCfg_writeSectionCfg s c hi
  obtain ⟨frosted, frost⟩ := sectionFrost_worked (s := writeSectionCfg i c s) hi was c record hw hr
  let v : State := { writeSectionCfg i c s with
    eu := if blinded then unitAfter s .blind else s.eu,
    lu := { s.lu with reports := if blinded then reportsWith s [eventNow s .blind (.sec i) 0] else s.lu.reports } }
  have worked1 : SectionWorked i v _ := frosted
  have written : writeSection i c s = deriveAndCheck i
    (sectionFlow i was c (sectionTimer i was c (sectionFrost i was c (writeSectionCfg i c s)))) := rfl
  rw [written]
  generalize sectionFrost i was c (writeSectionCfg i c s) = t1 at frost worked1 ⊢
  obtain ⟨worked2, timer⟩ := sectionTimer_worked hi was c t1
  generalize sectionTimer i was c t1 = t2 at worked2 timer ⊢
  have upTo2 : SectionWorked i v t2 := worked1.trans worked2
  obtain ⟨worked3, flowed⟩ := sectionFlow_worked hi was c (upTo2.waits hw)
  generalize sectionFlow i was c t2 = t3 at worked3 flowed ⊢
  have upTo3 : SectionWorked i v t3 := upTo2.trans worked3
  obtain ⟨q, hq, hj⟩ := deriveAndCheck_joins hi (upTo3.waits hw)
  obtain ⟨worked4, own⟩ := deriveAndCheck_worked hi (upTo3.waits hw)
  have all : SectionWorked i v (deriveAndCheck i t3) := upTo3.trans worked4
  have derived : SectionDerived (deriveAndCheck i t3) i ∧ OverridesQueued t3 (deriveAndCheck i t3) i := by
    rw [hq]
    have limits : ((t3.setSec i (derivedSec t3 i)).withFrost q).sec i = derivedSec t3 i := sec_setSec_same t3 _ hi
    refine ⟨sectionDerived_of_sec limits rfl rfl, overridesQueued_of_standsBy fun a ha => ?_⟩
    rw [limits] at ha
    exact hj.all a ha
  generalize deriveAndCheck i t3 = t at own all derived ⊢
  have cfg : v.secCfg i = c := record
  obtain ⟨limits, fans, valve⟩ := derived
  simp only [upTo3.secCfg i, upTo3.node, cfg] at fans valve
  have only := all.only
  rw [cfg] at only
  refine ⟨all.frame, all.others, ?_, limits, all.kept, only, fans, valve⟩
  have flow1 : (t1.sec i).flow = x.flow := by have k := congrArg SectionState.flow frost; exact k
  have interval1 : (t1.sec i).interval = x.interval := by have k := congrArg SectionState.interval frost; exact k
  have flushTimer1 : (t1.sec i).flushTimer = x.flushTimer := by have k := congrArg SectionState.flushTimer frost; exact k
  have flow2 : (t2.sec i).flow = x.flow := by have k := congrArg SectionState.flow timer; exact k.trans flow1
  have flushTimer2 : (t2.sec i).flushTimer = x.flushTimer := by
    have k := congrArg SectionState.flushTimer timer
    exact k.trans flushTimer1
  have judgedAs : flowOf t2 i = flow := by
    unfold flowOf
    rw [upTo2.secCfg i, upTo2.node, cfg]
    rfl
  have length1 : intervalLength t1
      = 1000 * if s.loop.deepFrost then s.cfg.loop.deepInterval else s.cfg.loop.normalInterval := by
    rw [worked1.frame]
    rfl
  refine eq_of_limitless ?_ rfl rfl
  rw [own, flowed, flow2, flushTimer2, judgedAs, timer, interval1, length1, frost]
  rfl

end SectionEntries

/-! ## LOOP entries (R28) -/

section LoopEntries
variable {s : State} {was c : LoopCfg}

/-- R40: the supply enters BLIND, with room for its event. -/
theorem supplyBlind_joins (hw : PostsWait s) (hr : RoomForReports s 1) :
    ∃ x q, supplyBlind s = { s with
        sections := x, arb := { s.arb with frost := q },
        loop := { s.loop with supplySight := .blind, ceiling := min s.loop.ceiling s.cfg.loop.blindCeiling },
        eu := unitAfter s .blind,
        lu := { s.lu with reports := reportsWith s [eventNow s .blind (.node s.cfg.loop.supply) 0] } }
      ∧ s.arb.frost <+: q
      ∧ (min s.loop.ceiling s.cfg.loop.blindCeiling = s.loop.ceiling → x = s.sections ∧ q = s.arb.frost)
      ∧ ∀ i, i < 8 → limitless ((s.withSections x).sec i) = limitless (s.sec i) := by
  let u := s.withLoop { s.loop with supplySight := .blind, ceiling := min s.loop.ceiling s.cfg.loop.blindCeiling }
  obtain ⟨x, q, hx, hsame, hmoved⟩ := afterLoopCeiling_joins (s := u) s.loop.ceiling hw
  refine ⟨x, q, ?_, ?_, hsame, fun i hi => ?_⟩
  · unfold supplyBlind
    dsimp only
    rw [show s.withLoop _ = u from rfl, hx]
    exact raise_room (s := (u.withSections x).withFrost q) (by decide) hr
  · by_cases hc : u.loop.ceiling = s.loop.ceiling
    · rw [(hsame hc).2]
      exact List.prefix_rfl
    · exact (hmoved hc).2.kept
  · by_cases hc : u.loop.ceiling = s.loop.ceiling
    · rw [(hsame hc).1]
      rfl
    · rw [show (s.withSections x).sec i = derivedSec u i from (hmoved hc).1 i hi]
      rfl

/-- R28: the supply of the loop as a LOOP entry leaves it. -/
theorem loopSupplyWritten_joins (was : LoopCfg) (hc : s.cfg.loop = c) (hw : PostsWait s) (hr : RoomForReports s 1) :
    let unused := c.supply ≠ was.supply ∧ c.supply = 0
    let blinded := c.supply ≠ was.supply ∧ c.supply ≠ 0 ∧ s.loop.supplySight ≠ .blind
    let cut := ¬ unused ∧ c.blindCeiling ≠ was.blindCeiling ∧ s.loop.supplySight = .blind
    let ceiling := if unused then 1000
      else if blinded ∨ cut then min s.loop.ceiling c.blindCeiling else s.loop.ceiling
    ∃ x q, loopSupplyWritten was c s = { s with
        sections := x, arb := { s.arb with frost := q },
        loop := { s.loop with
          ceiling := ceiling,
          supplySight := if unused then .seen else if blinded then .blind else s.loop.supplySight },
        eu := if blinded then unitAfter s .blind else s.eu,
        lu := { s.lu with
          reports := if blinded then reportsWith s [eventNow s .blind (.node c.supply) 0] else s.lu.reports } }
      ∧ s.arb.frost <+: q
      ∧ (ceiling = s.loop.ceiling → x = s.sections ∧ q = s.arb.frost)
      ∧ ∀ i, i < 8 → limitless ((s.withSections x).sec i) = limitless (s.sec i) := by
  intro unused blinded cut ceiling
  unfold loopSupplyWritten ceiling
  by_cases hu : unused
  · have hb : ¬ blinded := fun k => k.2.1 hu.2
    rw [if_pos hu]
    simp only [if_pos hu, if_neg hb]
    exact ⟨s.sections, s.arb.frost, rfl, List.prefix_rfl, fun _ => ⟨rfl, rfl⟩, fun _ _ => rfl⟩
  rw [if_neg hu]
  simp only [if_neg hu]
  by_cases hb : blinded
  · obtain ⟨x, q, hx, hj⟩ := supplyBlind_joins hw hr
    rw [hc] at hx hj
    rw [if_pos ⟨hb.1, hb.2.2⟩]
    simp only [if_pos hb, if_pos (Or.inl hb : blinded ∨ cut)]
    exact ⟨x, q, hx, hj⟩
  have plain : ¬ (c.supply ≠ was.supply ∧ s.loop.supplySight ≠ .blind) :=
    fun k => hb ⟨k.1, fun h0 => hu ⟨k.1, h0⟩, k.2⟩
  rw [if_neg plain]
  simp only [if_neg hb]
  by_cases hcut : c.blindCeiling ≠ was.blindCeiling ∧ s.loop.supplySight = .blind
  · rw [if_pos hcut]
    simp only [if_pos (Or.inr ⟨hu, hcut⟩ : blinded ∨ cut)]
    exact ⟨s.sections, s.arb.frost, rfl, List.prefix_rfl, fun _ => ⟨rfl, rfl⟩, fun _ _ => rfl⟩
  · rw [if_neg hcut]
    simp only [if_neg (fun k => k.elim hb fun k => hcut k.2 : ¬ (blinded ∨ cut))]
    exact ⟨s.sections, s.arb.frost, rfl, List.prefix_rfl, fun _ => ⟨rfl, rfl⟩, fun _ _ => rfl⟩

/-- R28: the return and the ambient as a LOOP entry leaves them. -/
theorem loopAmbientReturn_eq (was c : LoopCfg) (s : State) :
    loopAmbientWritten was c (loopReturnWritten was c s) = s.withLoop { s.loop with
      retValue := if c.ret = was.ret then s.loop.retValue else none,
      retSight := if c.ret = was.ret then s.loop.retSight else .blind,
      ambientSight := if c.ambient = was.ambient then s.loop.ambientSight else .blind,
      deepFrost := if c.ambient = was.ambient then s.loop.deepFrost else true } := by
  unfold loopAmbientWritten loopReturnWritten
  by_cases hr : c.ret = was.ret <;> by_cases ha : c.ambient = was.ambient <;>
    simp only [hr, ha, ne_eq, not_true_eq_false, not_false_eq_true, if_true, if_false] <;> rfl

theorem loopEntry_judged (e : LoopEntry) (hs : s.store.state ≠ .writing) (he : loopOfEntry e = some c) :
    judgeEntry loopRules 0 e s = if loopRolesOk s c = true then .inr (writeLoop c s) else .inl .badValue := by
  have judged : judgeEntry loopRules 0 e s = match applyLoop e s with
      | some t => .inr t
      | none => .inl .badValue := judgeEntry_applied e (Nat.le_refl 0) (Nat.le_refl 0) hs (absurd · (by decide))
  rw [judged, applyLoop, he]
  dsimp only
  by_cases hk : loopRolesOk s c = true
  · rw [if_pos hk, if_pos hk]
  · rw [if_neg hk, if_neg hk]

/-- Settles O32: the supply, the return and the ambient in turn, and the derivation that a change of L brings. -/
theorem loopEntryWritten : Obligations.LoopEntryWritten := by
  intro e c s hs he hw hr
  refine ⟨fun hk => by rw [loopEntry_judged e hs he, if_neg (by rw [hk]; nofun)], fun hk => ?_⟩
  intro was unused blinded cut
  refine ⟨writeLoop c s, by rw [loopEntry_judged e hs he, if_pos hk], ?_⟩
  obtain ⟨x, q, hx, hkept, hsame, hbare⟩ := loopSupplyWritten_joins (c := c)
    (s := s.withCfg { s.cfg with loop := c }) was rfl hw hr
  have written : writeLoop c s = pumpCheck (afterLoopCeiling s.loop.ceiling (loopAmbientWritten was c
    (loopReturnWritten was c (loopSupplyWritten was c (s.withCfg { s.cfg with loop := c }))))) := rfl
  rw [written, loopAmbientReturn_eq, hx]
  generalize hu : State.withLoop _ _ = u
  have waits : PostsWait u := by rw [← hu]; exact hw
  obtain ⟨y, r, hy, hstays, hmoves⟩ := afterLoopCeiling_joins s.loop.ceiling waits
  rw [hy]
  obtain ⟨f, hf, hj⟩ := pumpCheck_waits (s := (u.withSections y).withFrost r) waits
  rw [hf, withFrost_withFrost]
  have frost : u.arb.frost = q := by rw [← hu]; rfl
  have sections : u.sections = x := by rw [← hu]; rfl
  have secs (i : Nat) (hi : i < 8) : limitless (u.sec i) = limitless (s.sec i) := by rw [← hu]; exact hbare i hi
  have ceiling : u.loop.ceiling = if unused then 1000
      else if blinded ∨ cut then min s.loop.ceiling c.blindCeiling else s.loop.ceiling := by rw [← hu]; rfl
  have stays (h : u.loop.ceiling = s.loop.ceiling) : y = s.sections ∧ r = s.arb.frost := by
    obtain ⟨hx', hq'⟩ := hsame (ceiling.symm.trans h)
    obtain ⟨hy', hr'⟩ := hstays h
    exact ⟨hy'.trans (sections.trans hx'), hr'.trans (frost.trans hq')⟩
  have before : s.arb.frost <+: r := by
    by_cases h : u.loop.ceiling = s.loop.ceiling
    · exact (stays h).2 ▸ List.prefix_rfl
    · exact hkept.trans (frost ▸ (hmoves h).2.kept)
  refine ⟨?_, fun h => (stays h).1, fun h i hi => ?_, before.trans hj.kept, fun a ha hh hl => ?_, fun h a ha => ?_⟩
  · rw [← hu]
    rfl
  · have own : ((u.withSections y).withFrost f).sec i = derivedSec u i := (hmoves h).1 i hi
    refine ⟨sectionDerived_of_sec own rfl rfl, eq_of_limitless ?_ rfl rfl⟩
    rw [own]
    exact secs i hi
  · refine hj.all a ⟨?_, ?_⟩ <;> rw [← hu]
    · exact ha
    · exact floorOutside_iff.mpr ⟨hh, hl⟩
  · refine (hj.only a ha).imp (fun k => (stays h).2 ▸ k) fun k => ?_
    have pumps := k.1
    rw [← hu] at pumps
    exact pumps

end LoopEntries

end Sys2Proof.Machine
end

section
/-! PROOFS. How an exchange ends (R81, R82): the decision that its window then takes, the walk that goes on, and the
attempts before the end (R75 to R84). -/

namespace Sys2Proof.Machine

/-! ## Decisions of a window with nothing queued (R128, R134) -/

section Decisions
variable {s : State}

theorem sourceFull_nothing (h : NothingQueued s) (p : Position) : sourceFull s.arb p = false := by
  obtain ⟨hfrost, hflush, hpass, hprobe⟩ := h
  cases p <;> simp [sourceFull, hfrost, hflush, hpass, hprobe]

theorem urgentPending_nothing (h : NothingQueued s) (p : Position) : urgentPending s p = false := by
  have routine (q : Position) : routinePending s q = false := by
    rw [routinePending, sourceFull_nothing h, Bool.and_false]
  unfold urgentPending
  split
  · exact List.any_eq_false.mpr fun q _ => by rw [routine]; nofun
  · rw [sourceFull_nothing h, Bool.and_false]

theorem findCandidate_nothing (h : NothingQueued s) : findCandidate s = none := by
  have none_ : (searchFrom positions s.arb.urgent).find? (urgentPending s) = none :=
    List.find?_eq_none.mpr fun p _ => by rw [urgentPending_nothing h]; nofun
  unfold findCandidate
  rw [none_]

/-- R134: a run-to-end window with nothing queued and time left waits on. -/
theorem makeDecision_waits (ho : s.arb.window.isOpen = true) (hst : s.arb.window.stopping = false)
    (hn : s.arb.window.inFlight = none) (hk : s.arb.window.kind = .runToEnd) (hq : NothingQueued s)
    (hc : s.seq.timer = .counting) (hl : 0 < s.seq.timerLeft) :
    makeDecision s = s.withArb { s.arb with due := false } := by
  have kind : (s.withArb { s.arb with due := false }).arb.window.kind = .runToEnd := hk
  have left : ¬ timeLeft (s.withArb { s.arb with due := false }) = 0 := by
    unfold timeLeft
    rw [kind]
    dsimp only
    rw [if_pos (by exact hc)]
    exact Nat.ne_of_gt hl
  have none_ : findCandidate (s.withArb { s.arb with due := false }) = none := findCandidate_nothing hq
  unfold makeDecision
  dsimp only
  rw [if_pos (by exact ⟨ho, hst, hn⟩), decision, none_]
  dsimp only
  rw [kind]
  dsimp only
  rw [if_neg left]

end Decisions

/-! ## The end of an exchange as its requester takes it (R102, R111, R112, R136) -/

section Ends
variable {s t : State}

/-- The walk goes to a GAP, which it reaches in one move. -/
theorem goTo_gap {i : Nat} (h : Settled s) (hg : (s.slot i).kind = .gap) :
    Leads 1 (goTo i s) (s.withSeq (gapReached s.seq i (s.slot i).time)) := by
  have moves : Leads 1 (goTo i s) (reachSlot i (goTo i s)) := .one (settleOnce_resume h.2 rfl)
  rw [reachSlot_gap (s := goTo i s) hg] at moves
  have same : gapReached { (goTo i s).seq with resume := none } i ((goTo i s).slot i).time
      = gapReached s.seq i (s.slot i).time := gapReached_congr h.1 .none s.seq.wait _ _
  rw [same] at moves
  exact moves

theorem restingAs_eq (h : Settled s) (st : SeqState) : s.seq.rest st = restingAs s.seq st := by
  unfold Sequencer.rest restingAs
  rw [h.1]

/-- R112: where the walk goes when the exchange of its slot ends. -/
theorem slotTakesResult_running (r : ExchangeResult) (h : s.seq.state = .running) :
    slotTakesResult r s = goTo (slotAfter s r.conditions) s := by
  unfold slotTakesResult slotAfter branchTaken
  rw [h]
  dsimp only
  by_cases hb : (s.slot s.seq.current).kind = .exchangeBranch ∧ (s.slot s.seq.current).conditions &&& r.conditions.octet ≠ 0
  · rw [if_pos hb, if_pos (by simpa using hb)]
  · rw [if_neg hb, if_neg (by simpa using hb)]
    rfl

/-- R111, R102: the walk takes the end of the exchange of its slot. -/
theorem finish_slotTakesResult (r : ExchangeResult) (hs : Settled s) (h : EndsAtGap s r.conditions) :
    finish (slotTakesResult r s) = (s.withSeq (walkAfter s r.conditions)).withLu (sendIfFree s.lu) := by
  rcases h with hstop | ⟨hrun, hgap⟩
  · have idle : slotTakesResult r s = s.withSeq (restingAs s.seq .idle) := by
      unfold slotTakesResult enterIdle
      rw [hstop, ← restingAs_eq hs]
    have settled : Settled (s.withSeq (restingAs s.seq .idle)) := ⟨hs.1, hs.2⟩
    rw [idle, finish_of_settled settled, walkAfter, if_pos hstop]
    rfl
  · have settled : Settled (s.withSeq (gapReached s.seq (slotAfter s r.conditions)
      (s.slot (slotAfter s r.conditions)).time)) := ⟨hs.1, hs.2⟩
    rw [slotTakesResult_running r hrun, finish_leads (goTo_gap hs hgap) (by decide) settled, walkAfter,
      if_neg (by rw [hrun]; nofun)]
    rfl

/-- R136, R134, R102: the window takes the end of a granted exchange. -/
theorem finish_requestDone (hs : Settled s) (h : EndsInWindow s) :
    finish (requestDone s) = (afterGranted s).withLu (sendIfFree s.lu) := by
  unfold requestDone afterGranted
  dsimp only
  rcases h with ⟨hstop, hstate⟩ | ⟨hopen, hisOpen, hkind, hqueues, htimer, hleft⟩
  · rw [if_pos hstop, if_pos hstop]
    have closes : closeWindow (s.withArb { s.arb with window := { s.arb.window with inFlight := none } })
        = (s.withArb (windowShut s.arb)).withSeq (restingAs s.seq .idle) := by
      have stopping : (clearWindow (s.withArb { s.arb with window := { s.arb.window with inFlight := none } })).seq.state
          = .stopping := hstate
      unfold closeWindow enterIdle
      dsimp only
      rw [stopping]
      dsimp only
      rw [clearWindow_settled (by exact hs), ← restingAs_eq hs]
      rfl
    have settled : Settled ((s.withArb (windowShut s.arb)).withSeq (restingAs s.seq .idle)) := ⟨hs.1, hs.2⟩
    rw [closes, finish_of_settled settled]
    rfl
  · rw [if_neg (by rw [hopen]; nofun), if_neg (by rw [hopen]; nofun)]
    let u := s.withArb { s.arb with window := { s.arb.window with inFlight := none }, due := true }
    have waits : makeDecision u = u.withArb { u.arb with due := false } :=
      makeDecision_waits hisOpen hopen rfl hkind hqueues htimer hleft
    have moves : Leads 1 u (u.withArb { u.arb with due := false }) := .one ((settleOnce_due rfl).trans (congrArg some waits))
    have settled : Settled (u.withArb { u.arb with due := false }) := ⟨hs.1, rfl⟩
    rw [show s.withArb { s.arb with window := { s.arb.window with inFlight := none }, due := true } = u from rfl,
      finish_leads moves (by decide) settled]
    have due : s.arb.due = false := hs.2
    have arb : ({ u.arb with due := false } : Arbiter)
        = { s.arb with window := { s.arb.window with inFlight := none } } := by
      rw [← due]
      rfl
    rw [arb]
    rfl

theorem afterGranted_withXe (s : State) (x : ExchangeEngine) : afterGranted (s.withXe x) = (afterGranted s).withXe x := by
  by_cases h : s.arb.window.stopping = true
  · rw [afterGranted, afterGranted, if_pos h, if_pos (by exact h)]
    rfl
  · rw [afterGranted, afterGranted, if_neg h, if_neg (by exact h)]
    rfl

/-- R82: the requester has taken the result, its hand-on leaving `h`. -/
theorem finish_handResult {q : ExchangeRequest} {r : ExchangeResult} {h : State}
    (hh : handOn q r s = h.withXe { h.xe with flight := none }) (hs : Settled h)
    (ht : EndsTold q.origin h r.conditions) : finish (handResult q r s) = endedAs q.origin h r.conditions := by
  unfold handResult endedAs
  unfold EndsTold at ht
  by_cases ho : q.origin = .slot
  · have same : s = h.withXe { h.xe with flight := none } := by
      rw [← hh, handOn, ho]
    rw [if_pos ho] at ht
    simp only [if_pos ho]
    rw [same, finish_slotTakesResult (s := h.withXe { h.xe with flight := none }) r hs ht]
    rfl
  · rw [if_neg ho] at ht
    simp only [if_neg ho]
    rw [hh, finish_requestDone (s := h.withXe { h.xe with flight := none }) hs ht]
    rw [afterGranted_withXe]
    have xe : (afterGranted h).xe = h.xe := by unfold afterGranted; split <;> rfl
    have lu : (afterGranted h).lu = h.lu := by unfold afterGranted; split <;> rfl
    rw [xe, lu]
    rfl

end Ends

end Sys2Proof.Machine
end

section
/-! PROOFS. The attempts of an exchange (R74 to R84): one that fails and one that is discarded, each with a retry left. -/

namespace Sys2Proof.Machine

section AttemptEnds
variable {s : State} {f : Flight}

/-- R75: each way that an attempt fails brings the end of the attempt. -/
theorem exec_attemptFails {c : Instr} {e : TransferError} (hf : s.xe.flight = some f) (h : AttemptFails f c e) :
    exec c s = .next (finish (failAttempt f e s)) := by
  have failsIn {p : Phase} (e : TransferError) (hp : f.phase = p) : failIn p e s = failAttempt f e s := by
    unfold failIn
    rw [hf]
    exact if_pos hp
  rcases h with ⟨rfl, hp, rfl⟩ | ⟨rfl | rfl, hp, rfl⟩ | ⟨hp, ⟨b, rfl, rfl⟩ | ⟨b, rfl, hlen, hj⟩⟩
  · rw [exec_responseTimerExpiry, failsIn _ hp]
  · rw [exec_replyGapExpiry, failsIn _ hp]
  · rw [exec_replyWindowExpiry, failsIn _ hp]
  · have heard : hearOctet f.lane b true s = failAttempt f .badFrame s := by
      unfold hearOctet
      rw [hf]
      exact (if_pos ⟨rfl, listening_of_phase hp⟩).trans (if_pos rfl)
    rw [exec_replyOctet, heard]
  · have full : (f.octets ++ [b]).length = 7 := by rw [List.length_append, hlen]; rfl
    rw [exec_replyOctet, hearOctet_heard b hf hp, takeReplyOctet]
    dsimp only
    rw [if_pos full, judgeAttempt, hj]

/-- R75: the seventh octet of a valid reply brings the end of the attempt. -/
theorem exec_validReply {ks v1 v0 p1 p0 check : Byte} (hf : s.xe.flight = some f) (hp : f.phase = .receiving)
    (ho : f.octets = [BitVec.ofNat 8 f.request.node, ks, v1, v0, p1, p0]) (hc : check = crc8 f.octets)
    (h48 : f.request.node ≤ 48) (hr : ks.getLsbD 7 = true)
    (hk : (ks.extractLsb' 4 3).setWidth 8 = f.request.kind.code) :
    exec (.replyOctet f.lane check false) s = .next (finish (succeedAttempt f
      { status := { busy := ks.getLsbD 0, fault := ks.getLsbD 1, localCtl := ks.getLsbD 2, ice := ks.getLsbD 3 },
        value := v1 ++ v0, parameter := p1 ++ p0 } s)) := by
  have full : (f.octets ++ [check]).length = 7 := by rw [ho]; rfl
  have address : (BitVec.ofNat 8 f.request.node).toNat = f.request.node := by
    rw [BitVec.toNat_ofNat]
    omega
  have judged : judgeReply f.request.node f.request.kind (f.octets ++ [check]) = .inr
      { status := { busy := ks.getLsbD 0, fault := ks.getLsbD 1, localCtl := ks.getLsbD 2, ice := ks.getLsbD 3 },
        value := v1 ++ v0, parameter := p1 ++ p0 } := by
    rw [hc, ho]
    unfold judgeReply
    dsimp only [List.cons_append, List.nil_append]
    rw [if_neg (not_not_intro rfl), if_neg (not_not_intro address), if_neg]
    · rfl
    · rintro (h | h)
      · rw [hr] at h
        cases h
      · exact h hk
  rw [exec_replyOctet, hearOctet_heard check hf (.inr hp), takeReplyOctet]
  dsimp only
  rw [if_pos full, judgeAttempt, judged]

theorem satSucc_eq_min (top n : Nat) : satSucc top n = min top (n + 1) := by
  unfold satSucc
  split <;> omega

/-- R76, R83: the part once an attempt on a lane has failed, with room for its event. -/
theorem attemptFailed_room (l : Lane) (e : TransferError) (hr : RoomForReports s 1) :
    let x := s.lane l
    attemptFailed l e s = { s with
      xe := (s.setLane l (laneAfterFailure x e)).xe,
      eu := if GoesDown x then unitAfter s .laneDown else s.eu,
      lu := { s.lu with
        reports := if GoesDown x then reportsWith s [eventNow s .laneDown (.lane l) 0] else s.lu.reports } } := by
  intro x
  have counted : (x.count e).health = x.health ∧ (x.count e).streak = x.streak := by cases e <;> exact ⟨rfl, rfl⟩
  have goes : ((x.count e).health = .up ∧ satSucc 8 (x.count e).streak = 8) ↔ GoesDown x := by
    rw [counted.1, counted.2, satSucc_eq_min]
    exact and_congr_right fun _ => by omega
  have after : laneAfterFailure x e = if GoesDown x then
      { x.count e with streak := satSucc 8 (x.count e).streak, health := .down, probeCountdown := 1 }
      else { x.count e with streak := satSucc 8 (x.count e).streak } := by
    unfold laneAfterFailure
    rw [counted.2, ← satSucc_eq_min 8 x.streak]
    by_cases hg : GoesDown x
    · simp only [if_pos hg]
      cases e <;> rfl
    · simp only [if_neg hg]
      cases e <;> rfl
  unfold attemptFailed
  dsimp only
  rw [show s.lane l = x from rfl, after]
  by_cases hg : GoesDown x
  · rw [if_pos (goes.mpr hg)]
    simp only [if_pos hg]
    generalize ({ x.count e with streak := satSucc 8 (x.count e).streak, health := .down, probeCountdown := 1 } : LaneState) = y
    rw [raise_room (by decide) (by cases l <;> exact hr)]
    cases l <;> rfl
  · rw [if_neg (mt goes.mp hg)]
    simp only [if_neg hg]
    cases l <;> rfl

/-- R74, R76, R83: the same with the idle time counted anew. -/
theorem attemptFailed_idle (l : Lane) (e : TransferError) (hr : RoomForReports s 1) :
    attemptFailed l e (startIdleTime s) = { s with
      xe := { (s.setLane l (laneAfterFailure (s.lane l) e)).xe with idleLeft := 120 },
      eu := if GoesDown (s.lane l) then unitAfter s .laneDown else s.eu,
      lu := { s.lu with
        reports := if GoesDown (s.lane l) then reportsWith s [eventNow s .laneDown (.lane l) 0] else s.lu.reports } } := by
  rw [attemptFailed_room (s := startIdleTime s) l e hr]
  cases l <;> rfl

/-- R78: while a lane is UP an attempt has its lane. -/
theorem attemptLane_up {q : ExchangeRequest} (n : Nat) (ho : q.origin ≠ .laneProbe) (h : ¬ s.BothDown) :
    attemptLane s q n = some (laneOfAttempt s q n) := by
  unfold attemptLane laneOfAttempt
  rw [if_neg ho]
  dsimp only
  generalize (if q.alternate = true ∧ n % 2 = 0 then other q.lane else q.lane) = want
  by_cases hw : (s.lane want).health = .up
  · rw [if_pos hw, if_pos hw]
  · have down (x : LaneState) (hx : ¬ x.health = .up) : x.health = .down := by
      cases hx' : x.health <;> simp_all
    have up : (s.lane (other want)).health = .up := by
      by_contra k
      refine h ?_
      cases want
      · exact ⟨down _ hw, down _ k⟩
      · exact ⟨down _ k, down _ hw⟩
    rw [if_neg hw, if_pos up, if_neg hw]

theorem laneOfAttempt_congr {t : State} (h : ∀ l, t.lane l = s.lane l) (q : ExchangeRequest) (n : Nat) :
    laneOfAttempt t q n = laneOfAttempt s q n := by
  unfold laneOfAttempt
  simp only [h]

theorem bothDown_congr {t : State} (h : ∀ l, t.lane l = s.lane l) : t.BothDown ↔ s.BothDown := by
  rw [State.BothDown, State.BothDown, show t.xe.laneA = s.xe.laneA from h .a, show t.xe.laneB = s.xe.laneB from h .b]

theorem retryOrEnd_retries {o : Outcome} {reply : Option Reply} (h : f.attempt ≤ f.request.retries) :
    retryOrEnd f o reply s = makeAttempt f (f.attempt + 1) s := if_pos (Nat.lt_succ_of_le h)

theorem retryOrEnd_ends {o : Outcome} {reply : Option Reply} (h : f.request.retries < f.attempt) :
    retryOrEnd f o reply s = endExchange f.request f.valueSent f.clamped (.ofFlight f o reply) s :=
  if_neg (Nat.not_lt.mpr h)

/-- R74, R78: the next attempt is prepared, its idle time counted anew. -/
theorem makeAttempt_next (n : Nat) (ho : f.request.origin ≠ .laneProbe) (h : ¬ s.BothDown) (hi : s.xe.idleLeft = 120) :
    makeAttempt f n s = s.withXe { s.xe with flight := some { f with
      attempt := n, lane := laneOfAttempt s f.request n, phase := .idle, octets := [],
      frameLeft := 40 * f.frame.length, replyLeft := 0, gapLeft := 0, windowLeft := 0 } } := by
  unfold makeAttempt
  rw [attemptLane_up n ho h]
  dsimp only
  unfold beginAttempt
  rw [if_neg (by rw [hi]; nofun)]
  rfl

theorem laneGood_room (l : Lane) (hr : RoomForReports s 1) :
    let x := s.lane l
    laneGood l s = { s with
      xe := (s.setLane l (laneAfterSuccess x)).xe,
      arb := { s.arb with probe := if x.health = .down then s.arb.probe.filter (· ≠ .lane l) else s.arb.probe },
      lu := { s.lu with
        reports := if x.health = .down then reportsWith s [infoNow s .laneUp (.lane l) 0] else s.lu.reports } } := by
  intro x
  unfold laneGood laneAfterSuccess
  by_cases hd : x.health = .down
  · simp only [if_pos hd]
    exact (if_pos hd).trans (laneUp_room l hr)
  · simp only [if_neg hd]
    refine (if_neg hd).trans ?_
    cases l <;> rfl

/-- R84: a successful attempt, with the idle time counted anew. -/
theorem attemptSucceeded_idle (l : Lane) (a : Nat) (hr : RoomForReports s 1) :
    let x := s.lane l
    attemptSucceeded l a (startIdleTime s) = { s with
      xe := { (s.setLane l (laneAfterSuccess x)).xe with lastGood := a, idleLeft := 120 },
      arb := { s.arb with probe := if x.health = .down then s.arb.probe.filter (· ≠ .lane l) else s.arb.probe },
      lu := { s.lu with
        reports := if x.health = .down then reportsWith s [infoNow s .laneUp (.lane l) 0] else s.lu.reports } } := by
  intro x
  rw [attemptSucceeded, laneGood_room (s := (startIdleTime s).withXe { (startIdleTime s).xe with lastGood := a }) l hr]
  cases l <;> rfl

theorem laneAfterSuccess_up (x : LaneState) : (laneAfterSuccess x).health = .up := by
  unfold laneAfterSuccess
  by_cases hx : x.health = .down
  · rw [if_pos hx]
  · rw [if_neg hx]
    show x.health = .up
    cases hk : x.health with
    | up => rfl
    | down => exact absurd hk hx

/-- R84: no lane pair is DOWN behind a successful attempt. -/
theorem not_bothDown_success (l : Lane) (x : LaneState) : ¬ (s.setLane l (laneAfterSuccess x)).BothDown := by
  have up := laneAfterSuccess_up x
  rintro ⟨ha, hb⟩
  cases l
  · exact absurd (up.symm.trans ha) (by decide)
  · exact absurd (up.symm.trans hb) (by decide)

/-- Settles O43: the attempt that fails and the reply that is discarded, and the attempt that follows. -/
theorem failedAttemptRetries : Obligations.FailedAttemptRetries := by
  refine ⟨fun c e f s hf hfails hn ho hset hr => ?_, fun ks v1 v0 p1 p0 check f s hf hp hoct hcheck h1 h48 hk hkind hn ho hset hr => ?_⟩
  · intro x u hu
    rw [exec_attemptFails hf hfails, failAttempt, retryOrEnd_retries hn, attemptFailed_idle _ _ hr]
    generalize hv : State.mk _ _ _ _ _ _ _ _ _ _ _ _ _ _ _ _ = v
    have lanes (l : Lane) : v.lane l = u.lane l := by rw [← hv]; cases l <;> rfl
    rw [makeAttempt_next _ ho (mt (bothDown_congr lanes).mp hu) (by rw [← hv]), laneOfAttempt_congr lanes,
      finish_of_settled (by rw [← hv]; exact hset), ← hv]
    rfl
  · intro on hon x u
    have wanted : retryWanted f.request
        { busy := ks.getLsbD 0, fault := ks.getLsbD 1, localCtl := ks.getLsbD 2, ice := ks.getLsbD 3 } = true := by
      unfold retryWanted
      simp only [Bool.or_eq_true, Bool.and_eq_true, or_assoc]
      exact hon
    have up : ¬ u.BothDown := not_bothDown_success f.lane x
    rw [exec_validReply hf hp hoct hcheck h48 hk hkind, succeedAttempt]
    dsimp only
    rw [if_pos wanted, retryOrEnd_retries hn, attemptSucceeded_idle _ _ hr]
    generalize hv : State.mk _ _ _ _ _ _ _ _ _ _ _ _ _ _ _ _ = v
    have lanes (l : Lane) : v.lane l = u.lane l := by rw [← hv]; cases l <;> rfl
    rw [makeAttempt_next _ ho (mt (bothDown_congr lanes).mp up) (by rw [← hv]), laneOfAttempt_congr lanes,
      finish_of_settled (by rw [← hv]; exact hset), ← hv]
    rfl

end AttemptEnds

end Sys2Proof.Machine
end

section
/-! PROOFS. Exchanges that end: a PASS while STOPPING (R102, R137), the last attempt that fails (R81, R86, R87) and the
valid reply (R6 to R13, R88). -/

namespace Sys2Proof.Machine

section PassEnds
variable {s : State} {f : Flight}

/-- R86, R88: the health stage of a result that is DONE. -/
theorem healthStage_done {r : ExchangeResult} (h : r.outcome = .done) : healthStage r s = nodeGood r.node s := by
  unfold healthStage
  rw [h]

theorem nodeGood_active {a : Nat} (h1 : 1 ≤ a) (h : (s.node a).health = .active) :
    nodeGood a s = s.withNodes (s.nodes.setIfInBounds (a - 1) { s.node a with streak := 0 }) := by
  rw [nodeGood, if_neg (by rw [h]; nofun), setNode_of_pos h1]

theorem endedAs_granted {o : Origin} (ho : o ≠ .slot) (t : State) (c : Conditions) :
    endedAs o t c = { afterGranted t with
      xe := { (afterGranted t).xe with flight := none }, lu := sendIfFree (afterGranted t).lu } := by
  unfold endedAs
  rw [if_neg ho]

/-- Settles O49: the record, the streak, the PASS_REPLY and the window that closes. -/
theorem passReplyWhileStopping : Obligations.PassReplyWhileStopping := by
  intro ks v1 v0 p1 p0 check f s hf hp ho hkind a n st value conditions hoct hcheck h1 h48 hk hcode hretry hact hup
    hstop hwin hset hr
  have good := attemptSucceeded_idle (s := s) f.lane a hr
  have notDown : ¬ (s.lane f.lane).health = .down := by rw [hup]; nofun
  simp only [if_neg notDown] at good
  rw [exec_validReply hf hp hoct hcheck h48 hk hcode, succeedAttempt]
  dsimp only
  rw [if_neg (by rw [hretry]; nofun), good]
  generalize hv : State.mk _ _ _ _ _ _ _ _ _ _ _ _ _ _ _ _ = v
  unfold endExchange
  dsimp only
  have untaken : f.request.kind.taken = false := by rcases hkind with h | h <;> rw [h] <;> rfl
  have record : resultRecord v f.request f.valueSent f.clamped (.ofFlight f .done (some
      { status := st, value := v1 ++ v0, parameter := p1 ++ p0 })) =
        { node := a, origin := .pass, kind := f.request.kind, valueSent := f.valueSent, outcome := .done,
          conditions := conditions, attempts := some f.attempt, lastLane := some f.lane, replyValue := some value,
          time := s.plantTime, cycle := s.seq.cycle } := by
    unfold resultRecord Ending.ofFlight
    rw [untaken, ho, ← hv]
    dsimp only [Bool.false_and, Option.map_some, replyValue]
    rw [untaken]
    rfl
  rw [record, healthStage_done rfl, nodeGood_active h1 (by rw [← hv]; exact hact)]
  generalize hres : ExchangeResult.mk _ _ _ _ _ _ _ _ _ _ _ = r
  have passes (o : Option Reply) (u : State) : nodeStage r o u = u := by
    unfold nodeStage takesResult
    rw [← hres]
    dsimp only
    rw [untaken, Bool.and_false, Bool.false_and]
    cases o <;> rfl
  let reply : Report := .passReply
    { tag := f.request.tag, node := a, op := if f.request.kind = .paramWrite then .paramWrite else .paramRead,
      parameter := f.request.parameter, outcome := .done, conditions := conditions, value := some value,
      time := s.plantTime, cycle := s.seq.cycle }
  let u : State := { v with
    nodes := v.nodes.setIfInBounds (a - 1) { v.node a with streak := 0 },
    xe := { v.xe with lastResult := some r, flight := none } }
  have handed : handOn f.request r u = { u with lu := { u.lu with reports := reportsWith u [reply] } } := by
    have replied : handOn f.request r u = queueReport reply u := by
      unfold handOn passReply
      rw [ho, ← hres]
    rw [replied, queueReport_room (by unfold u; rw [← hv]; exact hr)]
    rfl
  rw [passes]
  have ends := finish_handResult (q := f.request) (r := r) (s := u)
    (h := { u with lu := { u.lu with reports := reportsWith u [reply] } }) handed (by unfold u; rw [← hv]; exact hset)
    (by
      rw [ho]
      exact .inl (by unfold u; rw [← hv]; exact ⟨hwin, hstop⟩))
  refine (congrArg Host.Outcome.next ends).trans ?_
  rw [ho, endedAs_granted (by decide), afterGranted, if_pos (by unfold u; rw [← hv]; exact hwin)]
  unfold u
  rw [← hv, ← hres]
  rfl

end PassEnds

/-! ## The last attempt that fails (R81, R86, R87, R89, R137) -/

section FailedEnds
variable {s t : State} {f : Flight}

theorem reportsWith_if (b : Prop) [Decidable b] (s : State) (r : Report) :
    (if b then reportsWith s [r] else s.lu.reports) = reportsWith s (if b then [r] else []) := by
  by_cases hb : b
  · rw [if_pos hb, if_pos hb]
  · rw [if_neg hb, if_neg hb]
    unfold reportsWith
    rw [List.append_nil, ite_self]

theorem unitWith_flags (s : State) (flags : BitVec 12) : (unitWith s flags).flags = flags := by
  unfold unitWith
  split <;> rfl

theorem unitWith_congr (hs : t.store = s.store) (hc : t.cfg = s.cfg) (flags : BitVec 12) :
    unitWith t flags = unitWith s flags := by
  unfold unitWith State.Starting
  rw [hs, hc]

/-- R182: the Event Unit behind two events, each under its condition. -/
theorem unitAfter_twice {b d : Prop} [Decidable b] [Decidable d] {x y : EventClass} (hs : t.store = s.store)
    (hc : t.cfg = s.cfg) (he : t.eu = if b then unitAfter s x else s.eu) :
    (if d then unitAfter t y else t.eu) = if b ∨ d then
        unitWith s (s.eu.flags ||| (if b then flagBit x else 0) ||| (if d then flagBit y else 0))
      else s.eu := by
  have zero (v : BitVec 12) : v ||| 0 = v := BitVec.or_zero
  by_cases hb : b <;> by_cases hd : d <;>
    simp only [hb, hd, if_true, if_false, or_true, true_or, or_self, unitAfter] at he ⊢ <;>
    simp only [he, unitWith_congr hs hc, unitWith_flags, zero]

/-- R86, R87: the health stage of a result that FAILED at an attempt, with room for its event. -/
theorem healthStage_failed {r : ExchangeResult} {k : Nat} (ho : r.outcome = .failed) (ha : r.attempts = some k)
    (h1 : 1 ≤ r.node) (hr : RoomForReports s 1) :
    let a := r.node
    let n := s.node a
    let strikes := r.origin ≠ .nodeProbe ∧ r.origin ≠ .laneProbe ∧ n.health = .active ∧ ¬ s.BothDown
    let silenced := strikes ∧ (s.nodeCfg a).silence ≤ n.streak + 1
    healthStage r s = { s with
      nodes := (if silenced then (s.nodes.setIfInBounds (a - 1)
          { n with health := .silent, streak := n.streak + 1, probeCountdown := s.cfg.linkSet.probeInterval })
        else if strikes then s.nodes.setIfInBounds (a - 1) { n with streak := n.streak + 1 } else s.nodes),
      arb := { s.arb with frost := if silenced then s.arb.frost.filter (· ≠ a) else s.arb.frost },
      eu := if silenced then unitAfter s .nodeSilent else s.eu,
      lu := { s.lu with
        reports := if silenced then reportsWith s [eventNow s .nodeSilent (.node a) 0] else s.lu.reports } } := by
  intro a n strikes silenced
  have ordinary : r.origin.ordinary = true ↔ r.origin ≠ .nodeProbe ∧ r.origin ≠ .laneProbe := by
    cases r.origin <;> simp [Origin.ordinary]
  have judged : (r.origin.ordinary && (s.node a).health == .active && !decide s.BothDown) = true ↔ strikes := by
    simp only [Bool.and_eq_true, ordinary, beq_iff_eq, Bool.not_eq_true', decide_eq_false_iff_not, strikes, and_assoc, n]
  unfold healthStage
  rw [ho, ha]
  dsimp only
  by_cases hk : strikes
  · rw [if_pos (judged.mpr hk), nodeFailed]
    by_cases hl : (s.nodeCfg a).silence ≤ n.streak + 1
    · have hsil : silenced := ⟨hk, hl⟩
      rw [if_pos hl, nodeSilenced]
      simp only [if_pos hsil]
      rw [setNode_of_pos h1, raise_room (by decide) (by exact hr)]
      rfl
    · have hsil : ¬ silenced := fun h => hl h.2
      rw [if_neg hl]
      simp only [if_neg hsil, if_pos hk]
      rw [setNode_of_pos h1]
      rfl
  · have hsil : ¬ silenced := fun h => hk h.1
    rw [if_neg (mt judged.mp hk)]
    simp only [if_neg hsil, if_neg hk]

/-- R136, R137: what the arbiter hands on of a result that FAILED, with room for a PASS_REPLY. -/
theorem handOn_failed {q : ExchangeRequest} {r : ExchangeResult} (ho : r.outcome = .failed) (hr : RoomForReports s 1) :
    handOn q r s = { s with lu := { s.lu with
      reports := if q.origin = .pass then reportsWith s [.passReply (passReply q r)] else s.lu.reports } } := by
  have fails : successfulDrive r = false := by
    unfold successfulDrive
    rw [ho]
    rfl
  unfold handOn
  by_cases hp : q.origin = .pass
  · simp only [hp, if_true]
    exact queueReport_room hr
  · simp only [if_neg hp]
    cases horigin : q.origin with
    | pass => exact absurd horigin hp
    | flushStart =>
      dsimp only
      rw [flushStartResult, fails]
      rfl
    | slot | frost | flushEnd | nodeProbe | laneProbe => rfl

/-- R78, R81: an exchange that no further attempt saves ends FAILED at its current attempt. -/
theorem retryOrEnd_last (h1 : 1 ≤ f.attempt)
    (h : f.request.retries < f.attempt ∨ (s.BothDown ∧ f.request.origin ≠ .laneProbe)) :
    retryOrEnd f .failed none s = endExchange f.request f.valueSent f.clamped (.ofFlight f .failed none) s := by
  by_cases hr : f.request.retries < f.attempt
  · exact retryOrEnd_ends hr
  · obtain ⟨⟨hA, hB⟩, ho⟩ := h.resolve_left hr
    have down (l : Lane) : ¬ (s.lane l).health = .up := by
      cases l
      · exact fun k => absurd (hA.symm.trans k) (by decide)
      · exact fun k => absurd (hB.symm.trans k) (by decide)
    have lane : attemptLane s f.request (f.attempt + 1) = none := by
      unfold attemptLane
      dsimp only
      rw [if_neg ho, if_neg (down _), if_neg (down _)]
    have later : ¬ f.attempt + 1 ≤ 1 := by omega
    rw [retryOrEnd_retries (Nat.not_lt.mp hr), makeAttempt, lane]
    dsimp only
    rw [if_neg later, if_neg later]
    rfl

/-- R81: what the end of an exchange without a reply leaves to its requester. -/
theorem endExchange_silent (q : ExchangeRequest) (sent : Option Nat) (clamped : Bool) (k : Option Nat) (l : Option Lane)
    (o : Outcome) (s : State) :
    let r : ExchangeResult :=
      { node := q.node, origin := q.origin, kind := q.kind, valueSent := sent, outcome := o,
        conditions := { transferFail := o == .failed, skipped := o == .skipped, busy := false, fault := false,
                        localCtl := false, ice := false, range := false, clamped := clamped },
        attempts := k, lastLane := l, replyValue := none, time := s.plantTime, cycle := s.seq.cycle }
    let t := healthStage r (s.withXe { s.xe with lastResult := some r })
    endExchange q sent clamped { outcome := o, attempts := k, lastLane := l, reply := none } s
      = handResult q r (t.withXe { t.xe with flight := none }) := by
  intro r t
  have record : resultRecord s q sent clamped { outcome := o, attempts := k, lastLane := l, reply := none } = r := by
    unfold resultRecord resultConditions
    simp only [Option.any_none, Bool.and_false]
    rfl
  unfold endExchange
  dsimp only
  rw [record]
  rfl

/-- Settles O44: the lane's stage, the node's and the requester's. -/
theorem failedExchangeEnds : Obligations.FailedExchangeEnds := by
  intro c e f s hf hfails hatt h1 hset hr a origin n x u hlast strikes silenced conditions failed hend
  let v : State := { s with
    xe := { u.xe with idleLeft := 120 },
    eu := if GoesDown x then unitAfter s .laneDown else s.eu,
    lu := { s.lu with
      reports := if GoesDown x then reportsWith s [eventNow s .laneDown (.lane f.lane) 0] else s.lu.reports } }
  have hv : attemptFailed f.lane e (startIdleTime s) = v := attemptFailed_idle _ _ (hr.le (by decide))
  let r : ExchangeResult :=
    { node := a, origin := origin, kind := f.request.kind, valueSent := f.valueSent, outcome := .failed,
      conditions := conditions, attempts := some f.attempt, lastLane := some f.lane, replyValue := none,
      time := s.plantTime, cycle := s.seq.cycle }
  let v1 : State := v.withXe { v.xe with lastResult := some r }
  let as : List Report := if GoesDown x then [eventNow s .laneDown (.lane f.lane) 0] else []
  let bs : List Report := if silenced then [eventNow s .nodeSilent (.node a) 0] else []
  let cs : List Report := if origin = .pass then [.passReply (passReply f.request r)] else []
  have short (b : Prop) [Decidable b] (r : Report) : (if b then [r] else []).length ≤ 1 := by split <;> simp
  have first : v1.lu.reports = reportsWith s as := reportsWith_if (GoesDown x) s _
  have room1 : RoomForReports v1 2 := roomForReports_after (hr.le (Nat.add_le_add_right (short _ _) 2)) rfl first
  have second : (if silenced then reportsWith v1 [eventNow s .nodeSilent (.node a) 0] else v1.lu.reports)
      = reportsWith s (as ++ bs) := (reportsWith_if silenced v1 _).trans (reportsWith_append bs rfl first)
  have unit : (if silenced then unitAfter v1 .nodeSilent else v1.eu) = failed.eu :=
    unitAfter_twice (b := GoesDown x) (x := .laneDown) rfl rfl rfl
  let w : State := { v1 with
    nodes := failed.nodes, arb := failed.arb, eu := failed.eu, lu := { s.lu with reports := reportsWith s (as ++ bs) } }
  have stage : healthStage r v1 = w :=
    (healthStage_failed (s := v1) (r := r) rfl rfl h1 (room1.le (by decide))).trans
      (congrArg₂ (fun (unit : EventUnit) (reports : List Report) => ({ v1 with
        nodes := failed.nodes, arb := failed.arb, eu := unit, lu := { s.lu with reports := reports } } : State)) unit second)
  have ended : endExchange f.request f.valueSent f.clamped (.ofFlight f .failed none) v
      = handResult f.request r ((healthStage r v1).withXe { (healthStage r v1).xe with flight := none }) :=
    endExchange_silent ..
  have third : (if origin = .pass then reportsWith w [.passReply (passReply f.request r)] else w.lu.reports)
      = reportsWith s (as ++ bs ++ cs) := (reportsWith_if (origin = .pass) w _).trans (reportsWith_append cs rfl rfl)
  have room2 : RoomForReports w 1 := by
    refine roomForReports_after (as := as ++ bs) (hr.le ?_) rfl rfl
    rw [List.length_append]
    have one : as.length ≤ 1 := short _ _
    have other : bs.length ≤ 1 := short _ _
    omega
  have handed : handOn f.request r (w.withXe { w.xe with flight := none })
      = failed.withXe { failed.xe with flight := none } :=
    (handOn_failed (s := w.withXe { w.xe with flight := none }) rfl room2).trans
      (congrArg (fun reports : List Report => ({ w with
        xe := { w.xe with flight := none }, lu := { s.lu with reports := reports } } : State)) third)
  rw [exec_attemptFails hf hfails, failAttempt, hv, retryOrEnd_last (s := v) hatt hlast, ended, stage]
  exact congrArg Host.Outcome.next (finish_handResult (r := r) (h := failed) handed hset hend)

end FailedEnds

end Sys2Proof.Machine
end

section
/-! PROOFS. The valid reply that ends a POLL, a DRIVE or a PROBE (R6 to R13, R80 to R84, R86, R88, R136). -/

namespace Sys2Proof.Machine

/-! ## Work that does not see the Exchange Engine -/

section Unseen
variable {s : State} (x : ExchangeEngine)

theorem postFrost_withXe (a : Nat) : postFrost a (s.withXe x) = (postFrost a s).withXe x := by
  unfold postFrost
  by_cases h : s.arb.frost.contains a = true
  · rw [if_pos h, if_pos (by exact h)]
  · rw [if_neg h, if_neg (by exact h)]
    rfl

theorem checkFan_withXe (i a : Nat) : checkFan i a (s.withXe x) = (checkFan i a s).withXe x := by
  unfold checkFan
  by_cases h : fanOutside (s.node a) (s.sec i).fanCeiling = true
  · rw [if_pos h, if_pos (by exact h), postFrost_withXe]
  · rw [if_neg h, if_neg (by exact h)]

theorem checkValve_withXe (i a : Nat) : checkValve i a (s.withXe x) = (checkValve i a s).withXe x := by
  unfold checkValve
  by_cases h : a ≠ 0 ∧ floorOutside (s.node a) (s.sec i).valveFloor = true
  · rw [if_pos h, if_pos (by exact h), postFrost_withXe]
  · rw [if_neg h, if_neg (by exact h)]

theorem foldl_withXe {f : Nat → State → State} (hf : ∀ a s, f a (s.withXe x) = (f a s).withXe x) (as : List Nat)
    (s : State) : as.foldl (fun t a => f a t) (s.withXe x) = (as.foldl (fun t a => f a t) s).withXe x := by
  induction as generalizing s with
  | nil => rfl
  | cons a as ih => rw [List.foldl_cons, List.foldl_cons, hf, ih]

theorem deriveAndCheck_withXe (i : Nat) : deriveAndCheck i (s.withXe x) = (deriveAndCheck i s).withXe x := by
  have fans := foldl_withXe x (f := checkFan i) (fun a s => checkFan_withXe x i a) (s.secCfg i).fans (derive i s)
  exact (congrArg (checkValve i (s.secCfg i).valve) fans).trans (checkValve_withXe x i _)

theorem setFlow_withXe (i : Nat) (f : Flow) : setFlow i f (s.withXe x) = (setFlow i f s).withXe x := by
  by_cases h : (s.sec i).flow = f
  · rw [setFlow_same h, setFlow_same (s := s.withXe x) h]
  · rw [setFlow_changed h, setFlow_changed (s := s.withXe x) h]
    exact deriveAndCheck_withXe (s := s.setSec i { s.sec i with flow := f }) x i

/-- R61, R62: Flush Accounting takes the end of a START whatever the Exchange Engine does. -/
theorem flushStartResult_withXe (i a : Nat) (b : Bool) :
    flushStartResult i a b (s.withXe x) = (flushStartResult i a b s).withXe x := by
  have begins : pulseBegins i (s.withXe x) = (pulseBegins i s).withXe x :=
    setFlow_withXe (s := s.setSec i
      { s.sec i with flushTimer := some (1000 * (s.secCfg i).flushDuration), blocked := false }) x i .flushing
  unfold flushStartResult
  by_cases h : (b && (s.secCfg i).enabled && (s.secCfg i).valve == a) = true
  · rw [if_pos h, if_pos (by exact h), begins]
  · rw [if_neg h, if_neg (by exact h)]

theorem flushStartResult_xe (i a : Nat) (b : Bool) : (flushStartResult i a b s).xe = s.xe := by
  have same := congrArg State.xe (flushStartResult_withXe (s := s) s.xe i a b)
  exact same

end Unseen

/-! ## The stages of a valid reply (R82) -/

section ReplyStages
variable {s : State} {f : Flight}

/-- R86, R88: the node's stage of a result that is DONE, with room for its report. -/
theorem nodeGood_room {a : Nat} (h1 : 1 ≤ a) (h48 : a ≤ 48) (hw : PostsWait s) (hr : RoomForReports s 1) :
    let n := s.node a
    let revived := n.health = .silent
    nodeGood a s = { s with
      nodes := s.nodes.setIfInBounds (a - 1) { n with
        health := .active, streak := 0, probeCountdown := if revived then 0 else n.probeCountdown },
      arb := { s.arb with
        probe := if revived then s.arb.probe.filter (· ≠ .node a) else s.arb.probe,
        frost := frostWith s (decide revived && standsOutside s a) a },
      lu := { s.lu with
        reports := if revived then reportsWith s [infoNow s .nodeRevived (.node a) 0] else s.lu.reports } } := by
  intro n revived
  by_cases hrev : revived
  · simp only [if_pos hrev, decide_eq_true hrev, Bool.true_and]
    exact (if_pos hrev).trans (nodeActive_revived h1 h48 hw hr)
  · have active : n.health = .active := by
      cases hh : n.health with
      | active => rfl
      | silent => exact absurd hh hrev
    simp only [if_neg hrev, decide_eq_false hrev, Bool.false_and, frostWith_false]
    rw [nodeGood_active h1 active, ← active]
    rfl

/-- R9: the floor of a 4096th is the division by 4096. -/
theorem replyEngineering_eq (c : NodeCfg) (p : Reply) :
    replyEngineering c p = max (-32768) (min 32767 (p.value.toInt * c.gain / 4096 + c.offset)) := by
  unfold replyEngineering convert saturate
  rw [Int.fdiv_eq_ediv_of_nonneg _ (by decide)]

theorem arrives_iff (c : NodeCfg) (st : Status) (w p : Word) :
    arrives c { status := st, value := w, parameter := p } = true ↔
      (st.busy = false ∧ st.fault = false)
        ∧ c.low ≤ max (-32768) (min 32767 (w.toInt * c.gain / 4096 + c.offset))
        ∧ max (-32768) (min 32767 (w.toInt * c.gain / 4096 + c.offset)) ≤ c.high := by
  unfold arrives Status.fresh inRange
  rw [replyEngineering_eq]
  simp [and_assoc]

/-- R78, R80: a valid reply that no retry follows ends the exchange. -/
theorem succeedAttempt_ends {reply : Reply} {v : State}
    (hv : attemptSucceeded f.lane f.request.node (startIdleTime s) = v)
    (h : f.request.retries < f.attempt ∨ retryWanted f.request reply.status = false) :
    succeedAttempt f reply s
      = endExchange f.request f.valueSent f.clamped (.ofFlight f .done (some reply)) v := by
  unfold succeedAttempt
  dsimp only
  rw [hv]
  by_cases hw : retryWanted f.request reply.status = true
  · rw [if_pos hw, retryOrEnd_ends (h.resolve_right (by rw [hw]; nofun))]
  · rw [if_neg hw]

/-- R8: the reply's status is neither BUSY nor FAULT. -/
abbrev Fresh (st : Status) : Prop := st.busy = false ∧ st.fault = false

/-- R9: the engineering value of a raw value. -/
def engineering (c : NodeCfg) (raw : Int) : Int := max (-32768) (min 32767 (raw * c.gain / 4096 + c.offset))

/-- R10: a reply that makes an arrival. -/
abbrev Arrival (c : NodeCfg) (st : Status) (raw : Int) : Prop :=
  Fresh st ∧ c.low ≤ engineering c raw ∧ engineering c raw ≤ c.high

theorem arrives_eq (c : NodeCfg) (p : Reply) : arrives c p = decide (Arrival c p.status p.value.toInt) := by
  rw [Bool.eq_iff_iff, decide_eq_true_eq]
  exact arrives_iff c p.status p.value p.parameter

theorem outOfRange_eq (c : NodeCfg) (p : Reply) :
    outOfRange c p = decide (Fresh p.status ∧ ¬ Arrival c p.status p.value.toInt) := by
  have split : outOfRange c p = (p.status.fresh && !arrives c p) := by
    unfold outOfRange arrives
    cases p.status.fresh <;> rfl
  have fresh : p.status.fresh = decide (Fresh p.status) := by
    rw [Bool.eq_iff_iff, decide_eq_true_eq]
    simp [Status.fresh, Fresh]
  rw [split, arrives_eq, fresh, Bool.eq_iff_iff]
  simp only [Bool.and_eq_true, Bool.not_eq_true', decide_eq_true_eq, decide_eq_false_iff_not]

/-- R81: the result record of an exchange that a reply of a kind the Node Table takes has ended. -/
def doneResult (s : State) (f : Flight) (p : Reply) : ExchangeResult :=
  let c := s.nodeCfg f.request.node
  { node := f.request.node, origin := f.request.origin, kind := f.request.kind, valueSent := f.valueSent, outcome := .done,
    conditions := { transferFail := false, skipped := false, busy := p.status.busy, fault := p.status.fault,
                    localCtl := p.status.localCtl, ice := p.status.ice,
                    range := decide (Fresh p.status ∧ ¬ Arrival c p.status p.value.toInt), clamped := f.clamped },
    attempts := some f.attempt, lastLane := some f.lane, replyValue := some p.value.toInt, time := s.plantTime,
    cycle := s.seq.cycle }

theorem resultRecord_done {p : Reply} (ht : f.request.kind.taken = true) (hk : s.kindOf f.request.node ≠ .none) :
    resultRecord s f.request f.valueSent f.clamped (.ofFlight f .done (some p)) = doneResult s f p := by
  have range : (f.request.kind.taken && s.kindOf f.request.node != .none && outOfRange (s.nodeCfg f.request.node) p)
      = decide (Fresh p.status ∧ ¬ Arrival (s.nodeCfg f.request.node) p.status p.value.toInt) := by
    rw [ht, outOfRange_eq, show (s.kindOf f.request.node != .none) = true by simpa using hk, Bool.true_and, Bool.true_and]
  have value : replyValue f.request.kind p = p.value.toInt := by
    unfold replyValue
    rw [ht]
    rfl
  unfold resultRecord Ending.ofFlight
  dsimp only
  rw [Option.any_some, Option.map_some, value, range]
  rfl

theorem successfulDrive_done (s : State) (f : Flight) (p : Reply) :
    successfulDrive (doneResult s f p) = decide (Fresh p.status ∧ f.request.kind = .drive) := by
  rw [Bool.eq_iff_iff, decide_eq_true_eq]
  simp only [successfulDrive, doneResult, Fresh, Bool.and_eq_true, beq_iff_eq, Bool.not_eq_true', true_and]
  tauto

/-- R7, R10: the record of a node once the reply has been taken. -/
def nodeReplied (c : NodeCfg) (n : NodeState) (f : Flight) (p : Reply) : NodeState :=
  let raw := p.value.toInt
  { n with
    value := if Arrival c p.status raw then some (engineering c raw) else n.value,
    age := if Arrival c p.status raw then 0 else n.age, lastRaw := some raw, lastStatus := some p.status,
    lastSent := if Fresh p.status ∧ f.request.kind = .drive ∧ isActuator c.kind = true then f.valueSent else n.lastSent }

theorem recordAfterReply_done (s : State) (c : NodeCfg) (n : NodeState) (f : Flight) (p : Reply) :
    recordAfterReply c n (doneResult s f p) p = nodeReplied c n f p := by
  have sent : (successfulDrive (doneResult s f p) && isActuator c.kind)
      = decide (Fresh p.status ∧ f.request.kind = .drive ∧ isActuator c.kind = true) := by
    rw [successfulDrive_done, Bool.eq_iff_iff]
    simp only [Bool.and_eq_true, decide_eq_true_eq, and_assoc]
  unfold recordAfterReply nodeReplied
  rw [arrives_eq, sent, replyEngineering_eq]
  simp only [decide_eq_true_eq]
  rfl

theorem sampleReport_done (s : State) (c : NodeCfg) (f : Flight) (p : Reply) :
    let drove := f.request.kind = .drive ∧ isActuator c.kind = true
    sampleReport c (doneResult s f p) p =
      { node := f.request.node, time := s.plantTime, cycle := s.seq.cycle,
        value := if Arrival c p.status p.value.toInt then some (engineering c p.value.toInt) else none,
        status := p.status, valueSent := if drove then f.valueSent else none,
        clamped := decide (drove ∧ f.clamped = true) } := by
  intro drove
  have driving : (isActuator c.kind && f.request.kind == .drive) = decide drove := by
    rw [Bool.eq_iff_iff]
    simp only [Bool.and_eq_true, decide_eq_true_eq, drove, beq_iff_eq]
    exact and_comm
  have clamps : (decide drove && f.clamped) = decide (drove ∧ f.clamped = true) := by
    rw [Bool.eq_iff_iff, Bool.and_eq_true, decide_eq_true_eq, decide_eq_true_eq]
  unfold sampleReport doneResult
  dsimp only
  rw [arrives_eq, driving, clamps, replyEngineering_eq]
  simp only [decide_eq_true_eq]
  rfl

/-- R6 to R13: the Node Table takes a reply, with room for its sample report. -/
theorem takeReply_done (u : State) {p : Reply} (h1 : 1 ≤ f.request.node) (hr : RoomForReports s 1) :
    let a := f.request.node
    let c := s.nodeCfg a
    let drove := f.request.kind = .drive ∧ isActuator c.kind = true
    let t : State := { s with
      nodes := s.nodes.setIfInBounds (a - 1) (nodeReplied c (s.node a) f p),
      lu := { s.lu with reports := (reportsWith s (if c.report = .every then
        [.sample { node := a, time := u.plantTime, cycle := u.seq.cycle,
                   value := if Arrival c p.status p.value.toInt then some (engineering c p.value.toInt) else none,
                   status := p.status, valueSent := if drove then f.valueSent else none,
                   clamped := decide (drove ∧ f.clamped = true) }] else [])) } }
    let driven := if Fresh p.status ∧ f.request.kind = .drive then handDrive a (s.node a).lastSent f.valueSent t else t
    takeReply (doneResult u f p) p s
      = if Arrival c p.status p.value.toInt then handArrival a (engineering c p.value.toInt) driven else driven := by
  intro a c drove t driven
  have sampled : (if c.report = .every then queueReport (.sample (sampleReport c (doneResult u f p) p))
        (s.setNode a (recordAfterReply c (s.node a) (doneResult u f p) p))
      else s.setNode a (recordAfterReply c (s.node a) (doneResult u f p) p)) = t := by
    unfold t
    rw [setNode_of_pos h1, recordAfterReply_done, sampleReport_done, ← reportsWith_if]
    by_cases he : c.report = .every
    · rw [if_pos he, if_pos he]
      exact queueReport_room hr
    · rw [if_neg he, if_neg he]
      rfl
  unfold takeReply
  dsimp only
  rw [show (doneResult u f p).node = a from rfl, show s.nodeCfg a = c from rfl, sampled, arrives_eq, successfulDrive_done,
    replyEngineering_eq]
  simp only [decide_eq_true_eq]
  rfl

/-- R136: what the arbiter hands on of a result that is not a PASS's. -/
theorem handOn_withXe {q : ExchangeRequest} {r : ExchangeResult} (h : q.origin ≠ .pass) (x : ExchangeEngine) (s : State) :
    handOn q r (s.withXe x)
      = (if q.origin = .flushStart then flushStartResult q.sec r.node (successfulDrive r) s else s).withXe x := by
  unfold handOn
  cases ho : q.origin with
  | pass => exact absurd ho h
  | flushStart =>
    rw [if_pos rfl]
    exact flushStartResult_withXe x ..
  | slot | frost | flushEnd | nodeProbe | laneProbe => rw [if_neg nofun]

/-- R82: the stages at the end of an exchange that a reply of a kind the Node Table takes has ended, with room for the
reports: the state that the requester takes the result in. -/
theorem endExchange_done {p : Reply} (ht : f.request.kind.taken = true) (hk : s.kindOf f.request.node ≠ .none)
    (hw : PostsWait s) (hr : RoomForReports s 2) :
    let a := f.request.node
    let c := s.nodeCfg a
    let n := s.node a
    let revived := n.health = .silent
    let drove := f.request.kind = .drive ∧ isActuator c.kind = true
    let taken : State := { s with
      nodes := s.nodes.setIfInBounds (a - 1) { nodeReplied c n f p with
        health := .active, streak := 0, probeCountdown := if revived then 0 else n.probeCountdown },
      xe := { s.xe with lastResult := some (doneResult s f p) },
      arb := { s.arb with
        probe := if revived then s.arb.probe.filter (· ≠ .node a) else s.arb.probe,
        frost := frostWith s (decide revived && standsOutside s a) a },
      lu := { s.lu with reports := (reportsWith s
        ((if revived then [infoNow s .nodeRevived (.node a) 0] else [])
          ++ (if c.report = .every then
            [.sample { node := a, time := s.plantTime, cycle := s.seq.cycle,
                       value := if Arrival c p.status p.value.toInt then some (engineering c p.value.toInt) else none,
                       status := p.status, valueSent := if drove then f.valueSent else none,
                       clamped := decide (drove ∧ f.clamped = true) }] else []))) } }
    let driven := if Fresh p.status ∧ f.request.kind = .drive then handDrive a n.lastSent f.valueSent taken else taken
    let told := if Arrival c p.status p.value.toInt then handArrival a (engineering c p.value.toInt) driven else driven
    endExchange f.request f.valueSent f.clamped (.ofFlight f .done (some p)) s
      = handResult f.request (doneResult s f p) (told.withXe { told.xe with flight := none }) := by
  intro a c n revived drove taken driven told
  obtain ⟨h1, h48⟩ := kindOf_inPart hk
  let r := doneResult s f p
  let u : State := s.withXe { s.xe with lastResult := some r }
  let bs : List Report := if revived then [infoNow s .nodeRevived (.node a) 0] else []
  let w : State := { taken with
    nodes := s.nodes.setIfInBounds (a - 1)
      { n with health := .active, streak := 0, probeCountdown := if revived then 0 else n.probeCountdown },
    lu := { s.lu with reports := reportsWith s bs } }
  have short : bs.length ≤ 1 := by
    unfold bs
    split <;> simp
  have good : nodeGood a u = w := (nodeGood_room (s := u) h1 h48 hw (hr.le (by decide))).trans
    (congrArg (fun reports : List Report => ({ w with lu := { s.lu with reports := reports } } : State))
      (reportsWith_if revived u (infoNow s .nodeRevived (.node a) 0)))
  have room : RoomForReports w 1 :=
    roomForReports_after (as := bs) (hr.le (Nat.add_le_add_right short 1)) rfl rfl
  have own : w.node a = { n with
      health := .active, streak := 0, probeCountdown := if revived then 0 else n.probeCountdown } := by
    have set := node_setNode_same u
      { n with health := .active, streak := 0, probeCountdown := if revived then 0 else n.probeCountdown } h1 h48
    rw [setNode_of_pos h1] at set
    exact set
  have nodes : w.nodes.setIfInBounds (a - 1) (nodeReplied c (w.node a) f p) = taken.nodes := by
    rw [own]
    exact Vector.setIfInBounds_setIfInBounds ..
  have reports (cs : List Report) : reportsWith w cs = reportsWith s (bs ++ cs) := reportsWith_append cs rfl rfl
  have sent : (w.node a).lastSent = n.lastSent := by rw [own]
  have table : takeReply r p w = told := (takeReply_done (s := w) (f := f) (p := p) s h1 room).trans
    (congrArg₂ (fun (t : State) (prev : Option Nat) =>
      let driven := if Fresh p.status ∧ f.request.kind = .drive then handDrive a prev f.valueSent t else t
      if Arrival c p.status p.value.toInt then handArrival a (engineering c p.value.toInt) driven else driven)
      (congrArg₂ (fun x rs => ({ w with nodes := x, lu := { w.lu with reports := rs } } : State)) nodes (reports _)) sent)
  have takes : takesResult w r = true := by
    have kind : (s.kindOf f.request.node != .none) = true := by simpa using hk
    show (true && f.request.kind.taken && s.kindOf f.request.node != .none) = true
    rw [ht, kind]
    rfl
  unfold endExchange
  dsimp only
  rw [resultRecord_done ht hk, healthStage_done rfl]
  show handResult f.request r ((nodeStage r (some p) (nodeGood a u)).withXe
    { (nodeStage r (some p) (nodeGood a u)).xe with flight := none }) = _
  rw [good, nodeStage, if_pos takes, table]

/-- The hand-offs behind a reply (R12, R61) leave a settled part settled. -/
theorem handedOff_settled {t : State} (hs : Settled t) (hw : PostsWait t) (b d e : Prop) [Decidable b] [Decidable d]
    [Decidable e] (a i : Nat) (prev new : Option Nat) (v : Int) (ok : Bool) :
    let driven := if b then handDrive a prev new t else t
    let told := if d then handArrival a v driven else driven
    Settled (if e then flushStartResult i a ok told else told) := by
  intro driven told
  have drivenBy : Calm t driven := by
    unfold driven
    split
    · exact acts_handDrive a _ _ t
    · exact .refl t
  have toldTo : Calm driven told := by
    unfold told
    split
    · exact acts_handArrival a _ driven
    · exact .refl driven
  have handedTo : Calm told (if e then flushStartResult i a ok told else told) := by
    split
    · exact acts_flushStartResult _ _ _ told
    · exact .refl told
  exact ((drivenBy.trans toldTo).trans handedTo).settled hs hw

/-- Settles O45: the lane's stage, the node's, the Node Table's and the requester's. -/
theorem validReplyEnds : Obligations.ValidReplyEnds := by
  intro ks v1 v0 p1 p0 check f s hf hp hkind horigin a origin c n x st raw fresh v arrival drove revived conditions
    hoct hcheck h1 h48 hk hcode hretry hnone hset hw hr heard taken driven told handed hend
  let reply : Reply := { status := st, value := v1 ++ v0, parameter := p1 ++ p0 }
  have takes : f.request.kind.taken = true := by rcases hkind with h | h | h <;> rw [h] <;> rfl
  let u : State := { s with
    xe := { (s.setLane f.lane (laneAfterSuccess x)).xe with lastGood := a, idleLeft := 120 },
    arb := { s.arb with probe := heard },
    lu := { s.lu with
      reports := if x.health = .down then reportsWith s [infoNow s .laneUp (.lane f.lane) 0] else s.lu.reports } }
  have lane : attemptSucceeded f.lane a (startIdleTime s) = u := attemptSucceeded_idle _ _ (hr.le (by decide))
  let as : List Report := if x.health = .down then [infoNow s .laneUp (.lane f.lane) 0] else []
  have first : u.lu.reports = reportsWith s as := reportsWith_if (x.health = .down) s _
  have short : as.length ≤ 1 := by
    unfold as
    split <;> simp
  have room : RoomForReports u 2 := roomForReports_after (hr.le (Nat.add_le_add_right short 2)) rfl first
  have reports (bs cs : List Report) : reportsWith u (bs ++ cs) = reportsWith s (as ++ bs ++ cs) := by
    rw [List.append_assoc]
    exact reportsWith_append _ rfl first
  have settled : Settled handed := handedOff_settled (t := taken) hset hw _ _ _ a _ _ _ _ _
  have ends := (endExchange_done (s := u) (p := reply) takes hnone hw room).trans
    (congrArg (fun rs : List Report =>
      let t : State := { taken with lu := { s.lu with reports := rs } }
      let driven := if fresh ∧ f.request.kind = .drive then handDrive a n.lastSent f.valueSent t else t
      let told := if arrival then handArrival a v driven else driven
      handResult f.request (doneResult u f reply) (told.withXe { told.xe with flight := none })) (reports _ _))
  have handedOn : handOn f.request (doneResult u f reply) (told.withXe { told.xe with flight := none })
      = handed.withXe { handed.xe with flight := none } := by
    have engine : handed.xe = told.xe := by
      unfold handed
      split
      · exact flushStartResult_xe ..
      · rfl
    rw [handOn_withXe horigin, successfulDrive_done, engine]
    rfl
  rw [exec_validReply hf hp hoct hcheck h48 hk hcode, succeedAttempt_ends lane hretry]
  exact congrArg Host.Outcome.next ((congrArg finish ends).trans
    (finish_handResult (r := doneResult u f reply) (h := handed) handedOn settled hend))

end ReplyStages

end Sys2Proof.Machine
end

section
/-! PROOFS. What begins an exchange (R77 to R79, R45, R46) and how a window chooses what it grants (R128 to R132). -/

namespace Sys2Proof.Machine

/-! ## An exchange that begins (R74, R77, R79) -/

section Begins
variable {s : State} {q : ExchangeRequest} {l : Lane}

theorem demandSource_eq (s : State) (a : Nat) : demandSource s a = sourceValue s a := by
  unfold demandSource sourceValue
  cases hm : s.mode with
  | supervised =>
    rw [if_pos rfl]
    cases s.demandOf a <;> rfl
  | autonomous => rw [if_neg nofun]

theorem clampDrive_eq (s : State) (a before : Nat) : clampDrive s a before = limitedValue s a before := by
  unfold clampDrive limitedValue
  cases s.fanSection a <;> cases s.valveSection a <;> rfl

/-- R46: a clamp is counted in the section of the node's role. -/
theorem clampsCounted_eq (s : State) (a before : Nat) :
    (if limitedValue s a before ≠ before then countClamp a s else s) = s.withSections (clampsCounted s a before) := by
  have owner : clampSection s a = if s.fanSection a = none then s.valveSection a else s.fanSection a := by
    unfold clampSection
    cases s.fanSection a <;> rfl
  unfold countClamp clampsCounted
  rw [owner]
  cases ho : (if s.fanSection a = none then s.valveSection a else s.fanSection a) with
  | none => exact ite_self _
  | some i =>
    dsimp only
    by_cases hb : limitedValue s a before = before
    · rw [if_pos hb, if_neg (not_not_intro hb)]
      rfl
    · rw [if_neg hb, if_pos hb]
      rfl

/-- R45: the value sent lies within the limits of the node's role. -/
theorem limitedValue_within (s : State) (a before : Nat) : WithinLimits s a (limitedValue s a before) := by
  unfold WithinLimits limitedValue
  cases hf : s.fanSection a with
  | some i =>
    refine ⟨fun j hj => ?_, nofun, nofun⟩
    cases hj
    exact Nat.min_le_right ..
  | none =>
    cases hv : s.valveSection a with
    | some i =>
      refine ⟨nofun, fun j _ hj => ?_, nofun⟩
      cases hj
      exact Nat.le_max_right ..
    | none =>
      refine ⟨nofun, nofun, fun _ _ hp => ?_⟩
      dsimp only
      rw [if_pos hp]
      exact Nat.le_max_right ..

/-- R74, R77: an exchange that sends no value begins its first attempt. -/
theorem beginExchange_first (hc : requestCheck s q = none) (hl : attemptLane s q 1 = some l) (hk : q.kind ≠ .drive) :
    beginExchange q s = s.withXe { s.xe with flight := (some
      (firstAttempt s q l none false (commandFrame q.node q.kind (framePayload q 0)))) } := by
  have undriven : (q.kind == FrameKind.drive) = false := by simpa using hk
  have payload (v : Nat) : framePayload q v = framePayload q 0 := by
    unfold framePayload
    cases h : q.kind with
    | drive => exact absurd h hk
    | poll | paramRead | paramWrite | probe => rfl
  unfold beginExchange
  rw [hc]
  dsimp only
  have built : builtFlight s q = { builtFlight s q with
      frame := commandFrame q.node q.kind (framePayload q 0), valueSent := none, clamped := false } := by
    unfold builtFlight
    dsimp only
    rw [undriven, payload]
    rfl
  rw [built]
  unfold makeAttempt
  dsimp only
  rw [if_neg nofun, show attemptLane s (builtFlight s q).request 1 = some l from hl]
  rfl

/-- R74, R77, R45, R46: a DRIVE begins its first attempt with a value within the limits. -/
theorem beginExchange_drive (hc : requestCheck s q = none) (hl : attemptLane s q 1 = some l) (hk : q.kind = .drive) :
    let before := valueBeforeLimits s q
    let sent := limitedValue s q.node before
    beginExchange q s = { s with
      sections := clampsCounted s q.node before,
      xe := { s.xe with flight := some (firstAttempt s q l (some sent) (decide (sent ≠ before))
        (commandFrame q.node .drive (natOctets sent))) } } := by
  intro before sent
  have built : builtFlight s q = { builtFlight s q with
      frame := commandFrame q.node .drive (natOctets sent), valueSent := some sent, clamped := decide (sent ≠ before) } := by
    unfold builtFlight framePayload
    dsimp only
    rw [hk, clampDrive_eq]
    have differs : (FrameKind.drive == .drive && sent != before) = decide (sent ≠ before) := by
      rw [Bool.eq_iff_iff]
      simp
    rw [← differs]
    rfl
  have counted := clampsCounted_eq s q.node before
  unfold beginExchange
  rw [hc]
  dsimp only
  rw [built]
  dsimp only
  simp only [decide_eq_true_eq]
  rw [counted]
  unfold makeAttempt
  dsimp only
  rw [show attemptLane (s.withSections (clampsCounted s q.node before)) (builtFlight s q).request 1 = some l from hl]
  rfl

/-- R77: a request that passes every check of TABLE 4-4. -/
theorem requestCheck_passes (hk : s.kindOf q.node ≠ .none)
    (hd : q.kind = .drive → isActuator (s.kindOf q.node) = true)
    (ha : q.origin.ordinary = true → (s.node q.node).health = .active) (hp : q.origin = .laneProbe → q.node ≠ 0)
    (hb : q.origin ≠ .laneProbe → ¬ s.BothDown) : requestCheck s q = none := by
  unfold requestCheck
  dsimp only
  rw [if_neg fun k => hk k.2, if_neg fun k => Bool.false_ne_true (k.2.1.symm.trans (hd k.1)),
    if_neg fun k => absurd (k.1.symm.trans (ha k.2)) (by decide), if_neg fun k => hp k.1 k.2, if_neg fun k => hb k.2 k.1]

/-- R79: an aperiodic exchange goes on the node's preferred lane, or on the other while that one is DOWN. -/
theorem attemptLane_preferred (ho : q.origin ≠ .laneProbe) (ha : q.alternate = false) (hl : q.lane = (s.nodeCfg q.node).lane)
    (hb : ¬ s.BothDown) (n : Nat) : attemptLane s q n = some (preferredLane s q.node) := by
  rw [attemptLane_up n ho hb]
  have wanted : (if q.alternate = true ∧ n % 2 = 0 then other q.lane else q.lane) = (s.nodeCfg q.node).lane := by
    rw [if_neg (fun k => Bool.false_ne_true (ha.symm.trans k.1)), hl]
  unfold laneOfAttempt preferredLane
  dsimp only
  rw [wanted]

end Begins

/-! ## Candidates (R127, R128) -/

section Candidates
variable {s : State}

theorem find?_of_only {α : Type} {p : α → Bool} {l : List α} {x : α} (hx : x ∈ l) (h : ∀ y, p y = true ↔ y = x) :
    l.find? p = some x := by
  have found : (l.find? p).isSome = true := List.find?_isSome.mpr ⟨x, hx, (h x).mpr rfl⟩
  obtain ⟨y, hy⟩ := Option.isSome_iff_exists.mp found
  rw [hy, (h y).mp (List.find?_some hy)]

theorem mem_searchFrom {order : List Position} {x : Position} (p : Position) (hx : x ∈ order) : x ∈ searchFrom order p := by
  unfold searchFrom
  rw [List.mem_append]
  rw [← List.take_append_drop (order.idxOf p + 1) order, List.mem_append] at hx
  exact hx.symm

/-- One source alone holds entries. -/
def OnlySource (s : State) (p : Position) : Prop := ∀ x, sourceFull s.arb x = true ↔ x = p

/-- R128: the search of a decision where one source alone holds entries. -/
theorem findCandidate_only {p : Position} (h : OnlySource s p) (hp : p ∈ sources) :
    findCandidate s = some { source := p, viaGroup := decide (levelInEffect s p = .routine) } := by
  have notGroup : p ≠ .group := by
    rintro rfl
    exact absurd hp (by decide)
  have pending (x : Position) : routinePending s x = true ↔ x = p ∧ levelInEffect s p = .routine := by
    unfold routinePending
    simp only [Bool.and_eq_true, bne_iff_ne, beq_iff_eq, h x]
    constructor
    · rintro ⟨⟨-, hl⟩, rfl⟩
      exact ⟨rfl, hl⟩
    · rintro ⟨rfl, hl⟩
      exact ⟨⟨notGroup, hl⟩, rfl⟩
  unfold findCandidate
  cases hl : levelInEffect s p with
  | urgent =>
    have only (x : Position) : urgentPending s x = true ↔ x = p := by
      unfold urgentPending
      by_cases hx : x = .group
      · rw [if_pos hx, hx]
        refine ⟨fun k => ?_, fun k => absurd k.symm notGroup⟩
        obtain ⟨y, -, hy⟩ := List.any_eq_true.mp k
        exact absurd (hl.symm.trans ((pending y).mp hy).2) nofun
      · rw [if_neg hx]
        simp only [Bool.and_eq_true, beq_iff_eq, h x]
        exact ⟨And.right, fun k => ⟨k ▸ hl, k⟩⟩
    rw [find?_of_only (mem_searchFrom _ (by cases p <;> decide)) only]
    cases p with
    | group => exact absurd rfl notGroup
    | frost | flush | pass | probe => rfl
  | routine =>
    have only (x : Position) : urgentPending s x = true ↔ x = .group := by
      unfold urgentPending
      by_cases hx : x = .group
      · rw [if_pos hx]
        exact ⟨fun _ => hx, fun _ => List.any_eq_true.mpr ⟨p, hp, (pending p).mpr ⟨rfl, hl⟩⟩⟩
      · rw [if_neg hx]
        simp only [Bool.and_eq_true, beq_iff_eq, h x]
        refine ⟨fun k => ?_, fun k => absurd k hx⟩
        rw [k.2] at k
        exact absurd (hl.symm.trans k.1) nofun
    rw [find?_of_only (mem_searchFrom _ (by decide)) only]
    dsimp only
    rw [find?_of_only (mem_searchFrom _ hp) fun x => (pending x).trans (and_iff_left hl)]
    rfl

theorem movePointers_eq (p : Position) (l : Level) (a : Arbiter) :
    movePointers { source := p, viaGroup := decide (l = .routine) } a = pointersMoved p l a := by
  cases l <;> rfl

/-- R131, R130: a decision where one source alone holds entries, as its head's budget fits the time left or not. -/
theorem makeDecision_only {p : Position} (ho : s.arb.window.isOpen = true) (hst : s.arb.window.stopping = false)
    (hn : s.arb.window.inFlight = none) (h : OnlySource s p) (hp : p ∈ sources) :
    let t := s.withArb { s.arb with due := false }
    let c : Candidate := { source := p, viaGroup := decide (levelInEffect s p = .routine) }
    makeDecision s = if budget s p ≤ timeLeft s then grant c t else closeWindow t := by
  intro t c
  have candidate : findCandidate t = some c := findCandidate_only (s := t) h hp
  unfold makeDecision
  dsimp only
  rw [if_pos (by exact ⟨ho, hst, hn⟩), decision, candidate]
  rfl

/-- R134: a fixed window, or one with no time left, closes where nothing is queued. -/
theorem makeDecision_closes (ho : s.arb.window.isOpen = true) (hst : s.arb.window.stopping = false)
    (hn : s.arb.window.inFlight = none) (hq : NothingQueued s)
    (hk : s.arb.window.kind = .fixed ∨ s.seq.timer ≠ .counting) :
    makeDecision s = closeWindow (s.withArb { s.arb with due := false }) := by
  have none_ : findCandidate (s.withArb { s.arb with due := false }) = none := findCandidate_nothing hq
  unfold makeDecision
  dsimp only
  rw [if_pos (by exact ⟨ho, hst, hn⟩), decision, none_]
  dsimp only
  cases hw : s.arb.window.kind with
  | fixed => rw [show (s.withArb { s.arb with due := false }).arb.window.kind = .fixed from hw]
  | runToEnd =>
    have spent : timeLeft (s.withArb { s.arb with due := false }) = 0 := by
      unfold timeLeft
      rw [show (s.withArb { s.arb with due := false }).arb.window.kind = .runToEnd from hw]
      exact if_neg (hk.resolve_left (by rw [hw]; nofun))
    rw [show (s.withArb { s.arb with due := false }).arb.window.kind = .runToEnd from hw]
    dsimp only
    rw [if_pos spent]

end Candidates

end Sys2Proof.Machine
end

section
/-! PROOFS. What a window grants (R129, R132), and a PASS that is taken while a run-to-end window waits (R131). -/

namespace Sys2Proof.Machine

/-! ## The heads of the queues as they are granted (R129, R132) -/

section Grants
variable {s : State}

theorem movePointers_queues (c : Candidate) (a : Arbiter) :
    (movePointers c a).frost = a.frost ∧ (movePointers c a).flush = a.flush ∧ (movePointers c a).pass = a.pass
      ∧ (movePointers c a).probe = a.probe := by
  unfold movePointers
  split <;> exact ⟨rfl, rfl, rfl, rfl⟩

theorem pointersMoved_eq (p : Position) (l : Level) (a : Arbiter) : pointersMoved p l a = { a with
    urgent := if l = .urgent then p else .group, routine := if l = .urgent then a.routine else p } := by
  cases l <;> rfl

theorem grant_frost {c : Candidate} {a : Nat} {rest : List Nat} (hc : c.source = .frost) (h : s.arb.frost = a :: rest) :
    grant c s = requestExchange (arbiterAsks s .frost a .drive)
      (s.withArb { movePointers c s.arb with frost := rest }) := by
  have head : (movePointers c s.arb).frost = a :: rest := (movePointers_queues c s.arb).1.trans h
  unfold grant
  dsimp only
  rw [hc]
  dsimp only
  rw [show (s.withArb (movePointers c s.arb)).arb.frost = a :: rest from head]
  rfl

theorem grant_flush {c : Candidate} {r : FlushRequest} {rest : List FlushRequest} (hc : c.source = .flush)
    (h : s.arb.flush = r :: rest) :
    grant c s = grantFlush r (s.withArb { movePointers c s.arb with flush := rest }) := by
  have head : (movePointers c s.arb).flush = r :: rest := (movePointers_queues c s.arb).2.1.trans h
  unfold grant
  dsimp only
  rw [hc]
  dsimp only
  rw [show (s.withArb (movePointers c s.arb)).arb.flush = r :: rest from head]
  rfl

theorem grant_pass {c : Candidate} {r : PassRequest} {rest : List PassRequest} (hc : c.source = .pass)
    (h : s.arb.pass = r :: rest) :
    grant c s = requestExchange (passExchange s r) (s.withArb { movePointers c s.arb with pass := rest }) := by
  have head : (movePointers c s.arb).pass = r :: rest := (movePointers_queues c s.arb).2.2.1.trans h
  unfold grant
  dsimp only
  rw [hc]
  dsimp only
  rw [show (s.withArb (movePointers c s.arb)).arb.pass = r :: rest from head]
  rfl

theorem grant_probe {c : Candidate} {p : ProbeTarget} {rest : List ProbeTarget} (hc : c.source = .probe)
    (h : s.arb.probe = p :: rest) :
    grant c s = requestExchange (probeExchange s p) (s.withArb { movePointers c s.arb with probe := rest }) := by
  have head : (movePointers c s.arb).probe = p :: rest := (movePointers_queues c s.arb).2.2.2.trans h
  unfold grant
  dsimp only
  rw [hc]
  dsimp only
  rw [show (s.withArb (movePointers c s.arb)).arb.probe = p :: rest from head]
  cases p <;> rfl

/-- A window that closes on a RUNNING walk goes on to a GAP. -/
theorem closeWindow_gap (h : Settled s) (hr : s.seq.state = .running) (hg : (s.slot (nextSlot s.seq.current)).kind = .gap) :
    Leads 1 (closeWindow s) ((s.withArb (windowShut s.arb)).withSeq
      (gapReached s.seq (nextSlot s.seq.current) (s.slot (nextSlot s.seq.current)).time)) := by
  rw [closeWindow_running hr, clearWindow_settled h]
  exact goOn_gap (s := s.withArb (windowShut s.arb)) h hg

end Grants

/-! ## A PASS into a waiting window (R128 to R134) -/

section PassWindow
variable {s : State}

theorem onlySource_pass {r : PassRequest} {rest : List PassRequest} (hp : s.arb.pass = r :: rest) (hf : s.arb.frost = [])
    (hu : s.arb.flush = []) (hb : s.arb.probe = []) : OnlySource s .pass := by
  intro x
  cases x <;> simp [sourceFull, hp, hf, hu, hb]

/-- R131: a post into a window that waits is the first of an empty queue, and a decision is due. -/
theorem postPass_due (r : PassRequest) (hp : s.arb.pass = []) (hw : s.arb.window.waiting = true) :
    postPass r s = s.withArb { s.arb with pass := [r], due := true } := by
  have room : s.arb.pass.length < passCapacity := by rw [hp]; decide
  have due : (s.arb.due || s.arb.window.waiting) = true := by rw [hw, Bool.or_true]
  unfold postPass posted
  rw [if_pos room, hp]
  show s.withArb { s.arb with pass := [r], due := s.arb.due || s.arb.window.waiting } = _
  rw [due]

/-- R72: the PASS exchange's command frame. -/
theorem passFrame_length (a : Nat) (read : Prop) [Decidable read] (parameter : Byte) (value : Word) :
    (commandFrame a (if read then FrameKind.paramRead else .paramWrite)
      (if read then [parameter] else parameter :: wordOctets value)).length
      = FrameKind.length (if read then FrameKind.paramRead else .paramWrite) := by
  by_cases hr : read
  · simp only [if_pos hr]
    rfl
  · simp only [if_neg hr]
    rfl

/-- TABLE 6-4: the exchange of a PASS request. -/
theorem passExchange_eq (s : State) (tag parameter : Byte) (a : Nat) (read : Prop) [Decidable read] (value : Word) :
    passExchange s { tag := tag, node := a, op := if read then .paramRead else .paramWrite, parameter := parameter,
                     value := value } =
      { origin := .pass, node := a, kind := if read then .paramRead else .paramWrite, lane := (s.nodeCfg a).lane,
        retries := 0, alternate := false, retryOn := 0, sec := 0, tag := tag, parameter := parameter, value := value } := by
  by_cases hr : read
  · simp only [if_pos hr]
    rfl
  · simp only [if_neg hr]
    rfl

/-- R130: the budget of a PASS request at the head of its queue. -/
theorem budget_pass {r : PassRequest} {rest : List PassRequest} (h : s.arb.pass = r :: rest) :
    budget s .pass = (FrameKind.length (if r.op = .paramWrite then .paramWrite else .paramRead) + 7) * 40
      + 10 * s.cfg.linkSet.responseTimeout + 120 := by
  unfold budget headFrame
  rw [h]
  rfl

/-- R128 to R132: the decision where a PASS request alone is queued. -/
theorem makeDecision_pass {tag parameter : Byte} {a : Nat} {read : Prop} [Decidable read] {value : Word}
    (ho : s.arb.window.isOpen = true) (hst : s.arb.window.stopping = false) (hn : s.arb.window.inFlight = none)
    (hp : s.arb.pass = [{ tag := tag, node := a, op := if read then .paramRead else .paramWrite, parameter := parameter,
                          value := value }])
    (hf : s.arb.frost = []) (hu : s.arb.flush = []) (hb : s.arb.probe = []) (hk : s.kindOf a ≠ .none)
    (ha : (s.node a).health = .active) (hup : ¬ s.BothDown) :
    let kind : FrameKind := if read then .paramRead else .paramWrite
    let frame := commandFrame a kind (if read then [parameter] else parameter :: wordOctets value)
    let budgeted := (frame.length + 7) * 40 + 10 * s.cfg.linkSet.responseTimeout + 120
    let q : ExchangeRequest :=
      { origin := .pass, node := a, kind := kind, lane := (s.nodeCfg a).lane, retries := 0, alternate := false,
        retryOn := 0, sec := 0, tag := tag, parameter := parameter, value := value }
    makeDecision s = if budgeted ≤ timeLeft s then { s with
        xe := { s.xe with flight := some (firstAttempt s q (preferredLane s a) none false frame) },
        arb := { pointersMoved .pass s.cfg.linkSet.passLevel s.arb with
          pass := [], window := { s.arb.window with inFlight := some .pass }, due := false } }
      else closeWindow (s.withArb { s.arb with due := false }) := by
  intro kind frame budgeted q
  have costs : budget s .pass = budgeted := by
    have op : (if (if read then PassOp.paramRead else .paramWrite) = PassOp.paramWrite then FrameKind.paramWrite
        else .paramRead) = kind := by
      unfold kind
      by_cases hread : read
      · simp only [if_pos hread]
        rfl
      · simp only [if_neg hread]
        rfl
    rw [budget_pass hp, op, ← passFrame_length a read parameter value]
  rw [makeDecision_only ho hst hn (onlySource_pass hp hf hu hb) (by decide), costs]
  refine if_congr Iff.rfl ?_ rfl
  rw [grant_pass (s := s.withArb { s.arb with due := false }) rfl hp, movePointers_eq]
  have asks : passExchange (s.withArb { s.arb with due := false })
      { tag := tag, node := a, op := if read then .paramRead else .paramWrite, parameter := parameter, value := value } = q :=
    passExchange_eq (s.withArb { s.arb with due := false }) tag parameter a read value
  rw [asks]
  have undriven : q.kind ≠ .drive := by
    show (if read then FrameKind.paramRead else .paramWrite) ≠ .drive
    split <;> nofun
  have notProbe : q.origin ≠ .laneProbe := show Origin.pass ≠ .laneProbe by decide
  have payload : framePayload q 0 = if read then [parameter] else parameter :: wordOctets value := by
    unfold framePayload q kind
    by_cases hread : read
    · simp only [if_pos hread]
    · simp only [if_neg hread]
  have levels : levelInEffect s .pass = s.cfg.linkSet.passLevel := rfl
  rw [levels]
  unfold requestExchange
  generalize hv : State.withArb _ _ = v
  have passes : requestCheck v q = none := by
    rw [← hv]
    exact requestCheck_passes hk (fun k => absurd k undriven) (fun _ => ha)
      (fun k => absurd k notProbe) (fun _ => hup)
  have lane : attemptLane v q 1 = some (preferredLane s a) := by
    rw [← hv]
    exact attemptLane_preferred notProbe rfl rfl hup 1
  rw [beginExchange_first passes lane undriven, payload, ← hv, pointersMoved_eq, pointersMoved_eq]
  rfl

/-- Settles O35: the post, the decision, and the exchange or the walk that follows. -/
theorem passIntoWaitingWindow : Obligations.PassIntoWaitingWindow := by
  intro tag node operation parameter value s h hopen hkind hflight hstop hfrost hflush hpass hprobe hop hk hact hup htimer
    a kind frame budgeted q
  obtain ⟨hserved, hlink, hroom, hset⟩ := id h
  let r : PassRequest :=
    { tag := tag, node := a, op := if operation = 0 then .paramRead else .paramWrite, parameter := parameter, value := value }
  have waiting : s.arb.window.waiting = true := by
    simp [Window.waiting, hopen, hkind, hflight, hstop]
  let u : State := s.withArb { s.arb with pass := [r], due := true }
  have served : servePass tag node operation parameter value (s.withLu (frameTaken s))
      = (u.withLu (frameTaken s), some (.plain .ok [])) := by
    rw [servePass_judged tag node parameter value hop, if_neg (octet_inPart hk), if_neg (by exact hk),
      if_neg (by show ¬ (s.node a).health = .silent; rw [hact]; nofun),
      if_neg (by show ¬ 8 ≤ s.arb.pass.length; rw [hpass]; decide), postPass_due (s := s.withLu (frameTaken s)) _ hpass waiting]
    rfl
  have link := sendIfFree_responding s kindPass tag .ok []
  have leads {n : Nat} {t : State} := request_leads (kind := kindPass) (tag := tag) (idle := []) (n := n) (t := t) h served
  generalize responding s kindPass tag .ok [] = L at link leads
  have move : Leads 1 (u.withLu L) (makeDecision (u.withLu L)) := .one (settleOnce_due rfl)
  have left : timeLeft (u.withLu L) = s.seq.timerLeft := by
    unfold timeLeft
    rw [show (u.withLu L).arb.window.kind = .runToEnd from hkind]
    exact if_pos htimer
  have decided := makeDecision_pass (s := u.withLu L) (tag := tag) (parameter := parameter) (a := a) (read := operation = 0)
    (value := value) hopen hstop hflight rfl hfrost hflush hprobe hk hact hup
  rw [left, pointersMoved_eq] at decided
  refine ⟨fun hfits => ?_, fun hover hrun hgap => ?_⟩
  · rw [decided, if_pos (by exact hfits)] at move
    rw [exec_pass, leads move (by decide) ⟨hset.1, rfl⟩]
    show Host.Outcome.next (State.withLu _ (sendIfFree L)) = _
    rw [link]
    exact congrArg₂ (fun (p : List PassRequest) (d : Bool) => Host.Outcome.next ({ s with
      xe := { s.xe with flight := some (firstAttempt s q (preferredLane s a) none false frame) },
      arb := { s.arb with
        pass := p, due := d, urgent := if s.cfg.linkSet.passLevel = .urgent then .pass else .group,
        routine := if s.cfg.linkSet.passLevel = .urgent then s.arb.routine else .pass,
        window := { s.arb.window with inFlight := some .pass } },
      lu := answered s kindPass tag .ok [] } : State)) hpass.symm hset.2.symm
  · rw [decided, if_neg (by exact Nat.not_le.mpr hover)] at move
    have shut : Leads 1 (closeWindow ((u.withLu L).withArb { u.arb with due := false }))
        (({ s with arb := { windowShut s.arb with pass := [r], due := false }, lu := L } : State).withSeq
          (gapReached s.seq (nextSlot s.seq.current) (s.slot (nextSlot s.seq.current)).time)) :=
      closeWindow_gap (s := (u.withLu L).withArb { u.arb with due := false }) ⟨hset.1, rfl⟩ hrun hgap
    rw [exec_pass, leads (move.trans shut) (by decide) ⟨hset.1, rfl⟩]
    show Host.Outcome.next (State.withLu _ (sendIfFree L)) = _
    rw [link]
    exact congrArg (fun d : Bool => Host.Outcome.next ({ s with
      seq := gapReached s.seq (nextSlot s.seq.current) (s.slot (nextSlot s.seq.current)).time,
      arb := { windowShut s.arb with pass := [r], due := d },
      lu := answered s kindPass tag .ok [] } : State)) hset.2.symm

end PassWindow

end Sys2Proof.Machine
end

section
/-! PROOFS. START by the slot it begins at (R100, R104 to R106, R117 to R119), the grants of a window among them (R129 to
R132), and the DRIVE slot (R45, R46). -/

namespace Sys2Proof.Machine

/-! ## A walk that goes from slot to slot (R104 to R107, R117 to R119) -/

section Walks
variable {v : State} {q : Sequencer} {i : Nat}

/-- The walk of `v` with the sequencer at `q`, on its way to slot `i`. -/
def State.toward (v : State) (q : Sequencer) (i : Nat) : State := v.withSeq { q with resume := some i }

/-- R104: the state in which slot `i` is checked. -/
def State.arriving (v : State) (q : Sequencer) (i : Nat) : State := v.withSeq { q with current := i, resume := none }

theorem leads_toward (hd : v.arb.due = false) : Leads 1 (v.toward q i) (reachSlot i (v.toward q i)) :=
  .one (settleOnce_resume hd rfl)

theorem reachSlot_checked (v : State) (q : Sequencer) (i : Nat) : reachSlot i (v.toward q i) =
    match haltCheck (v.arriving q i) (v.slot i) with
    | some cause => halt cause (v.arriving q i)
    | none => actSlot (v.slot i)
        (v.withSeq { q with current := i, resume := none, chain := chainAfter (v.slot i).kind q.chain }) := rfl

theorem reachSlot_toward (h : haltCheck (v.arriving q i) (v.slot i) = none) :
    reachSlot i (v.toward q i) = actSlot (v.slot i)
      (v.withSeq { q with current := i, resume := none, chain := chainAfter (v.slot i).kind q.chain }) := by
  rw [reachSlot_checked, h]

/-- R182: an event raised while the sequencer alone has moved. -/
theorem raise_withSeq {c : EventClass} {x : Subject} {d : Byte} (hc : c ≠ .reportLoss) (hr : RoomForReports v 1)
    (hq : q.cycle = v.seq.cycle) : raise c x d (v.withSeq q) = State.withSeq { v with
      eu := unitAfter v c, lu := { v.lu with reports := reportsWith v [eventNow v c x d] } } q := by
  rw [raise_room hc (by exact hr), eventNow_congr (s := v) (t := v.withSeq q) c x d rfl hq]
  rfl

theorem toward_gap (hd : v.arb.due = false) (hk : (v.slot i).kind = .gap) :
    Leads 1 (v.toward q i) (v.withSeq (gapReached { q with resume := none } i (v.slot i).time)) := by
  have moves := leads_toward (q := q) (i := i) hd
  rw [reachSlot_gap (s := v.toward q i) hk] at moves
  exact moves

theorem toward_stop (hd : v.arb.due = false) (hk : (v.slot i).kind = .stop) :
    Leads 1 (v.toward q i) (v.withSeq { restingAs q .idle with current := i, resume := none }) := by
  have moves := leads_toward (q := q) (i := i) hd
  rw [reachSlot_stop (s := v.toward q i) hk] at moves
  exact moves

/-- R105: a check of TABLE 5-4 halts the walk, with room for its event. -/
theorem toward_halt {cause : HaltCause} (hd : v.arb.due = false)
    (hc : haltCheck (v.arriving q i) (v.slot i) = some cause) (hr : RoomForReports v 1) (hq : q.cycle = v.seq.cycle) :
    Leads 1 (v.toward q i) { v with
      seq := { restingAs q .halted with current := i, resume := none, haltCause := cause, haltSlot := i },
      eu := unitAfter v .seqHalt,
      lu := { v.lu with
        reports := reportsWith v [eventNow v .seqHalt (.slot i) (codeIn haltCauses cause)] } } := by
  have moves := leads_toward (q := q) (i := i) hd
  have halted : reachSlot i (v.toward q i) = halt cause (v.arriving q i) := by
    rw [reachSlot_checked, hc]
  have raised := raise_withSeq (v := v) (c := .seqHalt) (x := .slot i) (d := codeIn haltCauses cause)
    (q := { Sequencer.rest { q with current := i, resume := none } .halted with haltCause := cause, haltSlot := i })
    (by decide) hr hq
  rw [halted, show halt cause (v.arriving q i) = _ from raised] at moves
  exact moves

/-- R104, R106: an untimed slot that passes its own check passes them all below the bound of the chain. -/
theorem haltCheck_untimed {s : State} {x : Slot} (hx : isExchange x.kind = false) (hc : s.seq.chain ≠ 63)
    (hcall : x.kind = .call → s.seq.ret = none) (hret : x.kind = .ret → s.seq.ret ≠ none) : haltCheck s x = none := by
  unfold haltCheck
  rw [if_neg fun k => hc k.2, if_neg fun k => k.2 (hcall k.1), if_neg fun k => hret k.1 k.2,
    if_neg (by rw [hx]; nofun), if_neg (by rw [hx]; nofun)]

theorem toward_jump (hd : v.arb.due = false) (hk : (v.slot i).kind = .jump) (hc : q.chain ≠ 63) :
    Leads 1 (v.toward q i) (v.toward { q with current := i, activity := .none, chain := q.chain + 1 }
      (v.slot i).target.toNat) := by
  have moves := leads_toward (q := q) (i := i) hd
  have checked : haltCheck (v.arriving q i) (v.slot i) = none :=
    haltCheck_untimed (by rw [hk]; rfl) hc (by rw [hk]; nofun) (by rw [hk]; nofun)
  rw [reachSlot_toward checked, actSlot, hk] at moves
  exact moves

theorem toward_call (hd : v.arb.due = false) (hk : (v.slot i).kind = .call) (hc : q.chain ≠ 63) (hr : q.ret = none) :
    Leads 1 (v.toward q i) (v.toward
      { q with current := i, activity := .none, chain := q.chain + 1, ret := some (nextSlot i) }
      (v.slot i).target.toNat) := by
  have moves := leads_toward (q := q) (i := i) hd
  have checked : haltCheck (v.arriving q i) (v.slot i) = none :=
    haltCheck_untimed (by rw [hk]; rfl) hc (fun _ => hr) (by rw [hk]; nofun)
  rw [reachSlot_toward checked, actSlot, hk] at moves
  exact moves

theorem toward_return {j : Nat} (hd : v.arb.due = false) (hk : (v.slot i).kind = .ret) (hc : q.chain ≠ 63)
    (hr : q.ret = some j) :
    Leads 1 (v.toward q i) (v.toward { q with current := i, activity := .none, chain := q.chain + 1, ret := none } j) := by
  have moves := leads_toward (q := q) (i := i) hd
  have checked : haltCheck (v.arriving q i) (v.slot i) = none :=
    haltCheck_untimed (by rw [hk]; rfl) hc (by rw [hk]; nofun) fun _ k => nomatch hr.symm.trans k
  rw [reachSlot_toward checked, actSlot, hk] at moves
  dsimp only [reachReturn] at moves
  rw [show (v.withSeq { q with current := i, resume := none, chain := chainAfter .ret q.chain }).seq.ret = some j from hr]
    at moves
  exact moves

theorem toward_note (hd : v.arb.due = false) (hk : (v.slot i).kind = .note) (hc : q.chain ≠ 63) (hr : RoomForReports v 1)
    (hq : q.cycle = v.seq.cycle) :
    Leads 1 (v.toward q i) (State.toward { v with
      eu := unitAfter v .note,
      lu := { v.lu with reports := reportsWith v [eventNow v .note (.note (v.slot i).note) 0] } }
      { q with current := i, activity := .none, chain := q.chain + 1 } (nextSlot i)) := by
  have moves := leads_toward (q := q) (i := i) hd
  have checked : haltCheck (v.arriving q i) (v.slot i) = none :=
    haltCheck_untimed (by rw [hk]; rfl) hc (by rw [hk]; nofun) (by rw [hk]; nofun)
  rw [reachSlot_toward checked, actSlot, hk] at moves
  dsimp only at moves
  rw [raise_withSeq (by decide) hr (by exact hq)] at moves
  exact moves

/-- R106: a JUMP to itself goes on until the chain counter stands at its bound. -/
theorem toward_jump_chain (hd : v.arb.due = false) (hk : (v.slot i).kind = .jump) (ht : (v.slot i).target.toNat = i)
    (hi : q.current = i) (ha : q.activity = .none) (n : Nat) (hn : q.chain + n ≤ 63) :
    Leads n (v.toward q i) (v.toward { q with chain := q.chain + n } i) := by
  induction n with
  | zero => exact .refl _
  | succ n ih =>
    have last := toward_jump (q := { q with chain := q.chain + n }) hd hk (by show q.chain + n ≠ 63; omega)
    rw [ht] at last
    have same : ({ q with chain := q.chain + n + 1, current := i, activity := .none } : Sequencer)
        = { q with chain := q.chain + (n + 1) } := by
      rw [← hi, ← ha]
      rfl
    rw [← same, Nat.add_comm n 1]
    exact (ih (by omega)).trans last

/-- R104: an exchange slot that passes its checks. -/
theorem haltCheck_exchange {s : State} {x : Slot} (hx : x.kind = .exchange) (hk : s.kindOf x.node.toNat ≠ .none)
    (hd : slotFrame x = .drive → s.kindOf x.node.toNat ≠ .sensor) : haltCheck s x = none := by
  unfold haltCheck
  rw [if_neg (by rw [hx]; nofun), if_neg (by rw [hx]; nofun), if_neg (by rw [hx]; nofun), if_neg fun k => hk k.2,
    if_neg fun k => hd k.2.1 k.2.2]

/-- R111: an exchange slot that is reached while the minor-cycle timer is not DUE. -/
theorem toward_exchange (hd : v.arb.due = false) (hx : (v.slot i).kind = .exchange)
    (hk : v.kindOf (v.slot i).node.toNat ≠ .none)
    (hs : slotFrame (v.slot i) = .drive → v.kindOf (v.slot i).node.toNat ≠ .sensor) (ht : q.timer ≠ .due) :
    Leads 1 (v.toward q i) (beginExchange (slotRequest (v.slot i))
      (v.withSeq { q with current := i, resume := none, chain := 0, activity := .exchange })) := by
  have moves := leads_toward (q := q) (i := i) hd
  have lapsed (r : Sequencer) (h : r.timer ≠ .due) : lapse r = r := if_neg h
  rw [reachSlot_toward (haltCheck_exchange hx hk hs), actSlot, hx] at moves
  dsimp only [reachExchange] at moves
  rw [lapsed _ (by exact ht)] at moves
  exact moves

/-- R115: the window record of a WINDOW slot that is reached. -/
def windowOpened (q : Sequencer) (x : Slot) : Window :=
  if x.time = 0 then
    { isOpen := true, kind := .runToEnd, length := if q.timer = .counting then q.timerLeft else 0,
      elapsed := 0, stopping := false, inFlight := none }
  else
    { isOpen := true, kind := .fixed, length := 100 * x.time.toNat, elapsed := 0, stopping := false, inFlight := none }

/-- R115, R131: a WINDOW slot that is reached while the minor-cycle timer is not DUE. -/
theorem toward_window (hd : v.arb.due = false) (hx : (v.slot i).kind = .window) (ht : q.timer ≠ .due) :
    Leads 1 (v.toward q i) ((v.withSeq { q with current := i, resume := none, chain := 0, activity := .window }).withArb
      { v.arb with window := windowOpened q (v.slot i), due := true }) := by
  have moves := leads_toward (q := q) (i := i) hd
  have lapsed (r : Sequencer) (h : r.timer ≠ .due) : lapse r = r := if_neg h
  rw [reachSlot_toward (haltCheck_plain _ (.inr (.inr (.inl hx)))), actSlot, hx] at moves
  dsimp only [reachWindow] at moves
  rw [lapsed _ (by exact ht)] at moves
  exact moves

end Walks

/-! ## START (R100) -/

section Starts
variable {s t : State} {tag slot : Byte}

theorem exec_start (tag slot : Byte) (s : State) :
    exec (.start tag slot) s = .next (request kindCommand tag [codeStart] (serveStart slot) s) := rfl

/-- The state of a START that has been accepted, its response waiting and its walk on its way to the slot. -/
def started (s : State) (tag slot : Byte) : State :=
  (s.withLu (responding s kindCommand tag .ok [1])).toward (begunAt s.seq slot.toNat) slot.toNat

/-- R100: an accepted START ends where its moves lead. -/
theorem exec_start_leads {n : Nat} (h : Ready s) (hst : s.seq.state = .idle ∨ s.seq.state = .halted)
    (hl : Leads n (started s tag slot) t) (hn : n ≤ 1024) (ht : Settled t) :
    exec (.start tag slot) s = .next (t.withLu (sendIfFree t.lu)) := by
  have served : serveStart slot (s.withLu (frameTaken s))
      = ((s.toward (begunAt s.seq slot.toNat) slot.toNat).withLu (frameTaken s), some (.plain .ok [1])) := by
    unfold serveStart
    rw [show (s.withLu (frameTaken s)).seq = s.seq from rfl]
    rcases hst with hst | hst <;> rw [hst] <;> rfl
  rw [exec_start, request_leads h served hl hn ht]

theorem resume_self {q : Sequencer} (h : q.resume = none) : ({ q with resume := none } : Sequencer) = q := by
  rw [← h]

/-- R104, R105: a check of the slot that START begins at halts the walk. -/
theorem start_halts {cause : HaltCause} (h : Ready s) (hst : s.seq.state = .idle ∨ s.seq.state = .halted)
    (hr : RoomForReports s 1) {n : Nat} {q : Sequencer} {i : Nat} (hn : n < 1024)
    (hl : Leads n (started s tag slot) ((s.withLu (responding s kindCommand tag .ok [1])).toward q i))
    (hq : { restingAs q .halted with current := i, resume := none, haltCause := cause, haltSlot := i }
      = ({ begunAt s.seq slot.toNat with state := .halted, current := i, haltCause := cause, haltSlot := i } : Sequencer))
    (hcycle : q.cycle = s.seq.cycle)
    (hc : haltCheck ((s.withLu (responding s kindCommand tag .ok [1])).arriving q i) (s.slot i) = some cause) :
    exec (.start tag slot) s = .next { s with
      seq := { begunAt s.seq slot.toNat with state := .halted, current := i, haltCause := cause, haltSlot := i },
      eu := unitAfter s .seqHalt,
      lu := (replied { frameTaken s with
        reports := reportsWith s [eventNow s .seqHalt (.slot i) (codeIn haltCauses cause)] } kindCommand tag .ok [1]) } := by
  have hd : s.arb.due = false := h.2.2.2.2
  have last := toward_halt (v := s.withLu (responding s kindCommand tag .ok [1])) (q := q) (i := i) hd hc hr hcycle
  rw [hq] at last
  rw [exec_start_leads h hst (hl.trans last) (by omega) ⟨h.2.2.2.1, hd⟩]
  rfl

/-- R100: START while the walk runs or stops. -/
theorem start_refused (h : Ready s) (hst : s.seq.state = .running ∨ s.seq.state = .stopping) :
    exec (.start tag slot) s = .next (s.withLu (answered s kindCommand tag .notNow [1])) := by
  have served : serveStart slot (s.withLu (frameTaken s)) = (s.withLu (frameTaken s), some (.plain .notNow [1])) := by
    unfold serveStart
    rw [show (s.withLu (frameTaken s)).seq = s.seq from rfl]
    rcases hst with hst | hst <;> rw [hst] <;> rfl
  rw [exec_start, request_refused h served]

section Accepted
variable (h : Ready s) (hst : s.seq.state = .idle ∨ s.seq.state = .halted)
include h hst

theorem start_gap (hk : (s.slot slot.toNat).kind = .gap) : exec (.start tag slot) s = .next { s with
    seq := gapReached (begunAt s.seq slot.toNat) slot.toNat (s.slot slot.toNat).time,
    lu := answered s kindCommand tag .ok [1] } := by
  obtain ⟨hresume, hd⟩ := h.2.2.2
  have moves : Leads 1 (started s tag slot) _ := toward_gap hd hk
  rw [exec_start_leads h hst moves (by decide) ⟨rfl, hd⟩, resume_self (q := begunAt s.seq slot.toNat) hresume]
  rfl

theorem start_stop (hk : (s.slot slot.toNat).kind = .stop) : exec (.start tag slot) s = .next { s with
    seq := { begunAt s.seq slot.toNat with state := .idle }, lu := answered s kindCommand tag .ok [1] } := by
  obtain ⟨hresume, hd⟩ := h.2.2.2
  have moves : Leads 1 (started s tag slot) _ := toward_stop hd hk
  rw [exec_start_leads h hst moves (by decide) ⟨rfl, hd⟩]
  exact congrArg (fun r => Host.Outcome.next ({ s with
    seq := { begunAt s.seq slot.toNat with state := .idle, resume := r },
    lu := answered s kindCommand tag .ok [1] } : State)) hresume.symm

theorem start_emptyReturn (hk : (s.slot slot.toNat).kind = .ret) (hr : RoomForReports s 1) :
    exec (.start tag slot) s = .next { s with
      seq := { begunAt s.seq slot.toNat with
        state := .halted, current := slot.toNat, haltCause := .emptyReturn, haltSlot := slot.toNat },
      eu := unitAfter s .seqHalt,
      lu := (replied { frameTaken s with
        reports := reportsWith s [eventNow s .seqHalt (.slot slot.toNat) 3] } kindCommand tag .ok [1]) } := by
  refine start_halts (q := begunAt s.seq slot.toNat) h hst hr (by decide) (.refl _) ?_ rfl ?_
  · exact congrArg (fun r => ({ begunAt s.seq slot.toNat with
      state := .halted, current := slot.toNat, haltCause := .emptyReturn, haltSlot := slot.toNat, resume := r } : Sequencer))
      h.2.2.2.1.symm
  · unfold haltCheck
    rw [if_neg fun k => absurd (show (0 : Nat) = 63 from k.2) (by decide), if_neg fun k => absurd (hk.symm.trans k.1) (by decide),
      if_pos ⟨hk, rfl⟩]

theorem start_badSlot
    (hk : (s.slot slot.toNat).kind = .exchange ∨ (s.slot slot.toNat).kind = .exchangeBranch
      ∨ (s.slot slot.toNat).kind = .retryOn)
    (hn : s.kindOf (s.slot slot.toNat).node.toNat = .none) (hr : RoomForReports s 1) :
    exec (.start tag slot) s = .next { s with
      seq := { begunAt s.seq slot.toNat with
        state := .halted, current := slot.toNat, haltCause := .badSlot, haltSlot := slot.toNat },
      eu := unitAfter s .seqHalt,
      lu := (replied { frameTaken s with
        reports := reportsWith s [eventNow s .seqHalt (.slot slot.toNat) 1] } kindCommand tag .ok [1]) } := by
  have exchange : isExchange (s.slot slot.toNat).kind = true := by
    rcases hk with hk | hk | hk <;> rw [hk] <;> rfl
  refine start_halts (q := begunAt s.seq slot.toNat) h hst hr (by decide) (.refl _) ?_ rfl ?_
  · exact congrArg (fun r => ({ begunAt s.seq slot.toNat with
      state := .halted, current := slot.toNat, haltCause := .badSlot, haltSlot := slot.toNat, resume := r } : Sequencer))
      h.2.2.2.1.symm
  · unfold haltCheck
    rw [if_neg fun k => absurd (show (0 : Nat) = 63 from k.2) (by decide),
      if_neg fun k => absurd ((congrArg isExchange k.1).symm.trans exchange) (by decide),
      if_neg fun k => absurd ((congrArg isExchange k.1).symm.trans exchange) (by decide), if_pos ⟨exchange, hn⟩]

omit h hst in
/-- What a GAP leaves of the sequencer that START began does not depend on the slots before it. -/
theorem gapReached_begun {q : Sequencer} (hq : q.resume = none) (j c n i : Nat) (r : Option Nat) (time : Word) :
    gapReached { begunAt q j with current := c, activity := .none, chain := n, ret := r, resume := none } i time
      = { gapReached (begunAt q j) i time with ret := r } :=
  congrArg (fun m => { gapReached (begunAt q j) i time with ret := r, resume := m }) hq.symm

theorem start_note (hk : (s.slot slot.toNat).kind = .note) (hg : (s.slot (nextSlot slot.toNat)).kind = .gap)
    (hr : RoomForReports s 1) : exec (.start tag slot) s = .next { s with
      seq := gapReached (begunAt s.seq slot.toNat) (nextSlot slot.toNat) (s.slot (nextSlot slot.toNat)).time,
      eu := unitAfter s .note,
      lu := (replied { frameTaken s with
        reports := reportsWith s [eventNow s .note (.note (s.slot slot.toNat).note) 0] } kindCommand tag .ok [1]) } := by
  obtain ⟨hresume, hd⟩ := h.2.2.2
  have noted : Leads 1 (started s tag slot) _ := toward_note hd hk (by show 0 ≠ 63; decide) hr rfl
  have gap := noted.trans (toward_gap hd hg)
  rw [exec_start_leads h hst gap (by decide) ⟨rfl, hd⟩]
  exact congrArg (fun q => Host.Outcome.next ({ s with
    seq := q, eu := unitAfter s .note,
    lu := (replied { frameTaken s with
      reports := reportsWith s [eventNow s .note (.note (s.slot slot.toNat).note) 0] } kindCommand tag .ok [1]) } : State))
    (gapReached_begun hresume slot.toNat slot.toNat 1 (nextSlot slot.toNat) none (s.slot (nextSlot slot.toNat)).time)

theorem start_jump (hk : (s.slot slot.toNat).kind = .jump)
    (hg : (s.slot (s.slot slot.toNat).target.toNat).kind = .gap) : exec (.start tag slot) s = .next { s with
      seq := gapReached (begunAt s.seq slot.toNat) (s.slot slot.toNat).target.toNat
        (s.slot (s.slot slot.toNat).target.toNat).time,
      lu := answered s kindCommand tag .ok [1] } := by
  obtain ⟨hresume, hd⟩ := h.2.2.2
  have jumped : Leads 1 (started s tag slot) _ := toward_jump hd hk (by show 0 ≠ 63; decide)
  have gap := jumped.trans (toward_gap hd hg)
  rw [exec_start_leads h hst gap (by decide) ⟨rfl, hd⟩]
  exact congrArg (fun q => Host.Outcome.next ({ s with seq := q, lu := answered s kindCommand tag .ok [1] } : State))
    (gapReached_begun hresume slot.toNat slot.toNat 1 _ none _)

theorem start_runaway (hk : (s.slot slot.toNat).kind = .jump) (ht : (s.slot slot.toNat).target.toNat = slot.toNat)
    (hr : RoomForReports s 1) : exec (.start tag slot) s = .next { s with
      seq := { begunAt s.seq slot.toNat with
        state := .halted, current := slot.toNat, haltCause := .runaway, haltSlot := slot.toNat },
      eu := unitAfter s .seqHalt,
      lu := (replied { frameTaken s with
        reports := reportsWith s [eventNow s .seqHalt (.slot slot.toNat) 4] } kindCommand tag .ok [1]) } := by
  have hd : s.arb.due = false := h.2.2.2.2
  have chain : Leads 63 (started s tag slot) _ :=
    toward_jump_chain (v := s.withLu (responding s kindCommand tag .ok [1])) (q := begunAt s.seq slot.toNat)
      hd hk ht rfl rfl 63 (by show 0 + 63 ≤ 63; decide)
  refine start_halts (q := { begunAt s.seq slot.toNat with chain := (begunAt s.seq slot.toNat).chain + 63 })
    h hst hr (by decide) chain ?_ rfl ?_
  · exact congrArg (fun r => ({ begunAt s.seq slot.toNat with
      state := .halted, current := slot.toNat, haltCause := .runaway, haltSlot := slot.toNat, resume := r } : Sequencer))
      h.2.2.2.1.symm
  · unfold haltCheck
    rw [if_pos ⟨by rw [hk]; rfl, rfl⟩]

theorem start_call (hk : (s.slot slot.toNat).kind = .call)
    (hg : (s.slot (s.slot slot.toNat).target.toNat).kind = .gap) : exec (.start tag slot) s = .next { s with
      seq := { gapReached (begunAt s.seq slot.toNat) (s.slot slot.toNat).target.toNat
        (s.slot (s.slot slot.toNat).target.toNat).time with ret := some (nextSlot slot.toNat) },
      lu := answered s kindCommand tag .ok [1] } := by
  obtain ⟨hresume, hd⟩ := h.2.2.2
  have called : Leads 1 (started s tag slot) _ := toward_call hd hk (by show 0 ≠ 63; decide) rfl
  have gap := called.trans (toward_gap hd hg)
  rw [exec_start_leads h hst gap (by decide) ⟨rfl, hd⟩]
  exact congrArg (fun q => Host.Outcome.next ({ s with seq := q, lu := answered s kindCommand tag .ok [1] } : State))
    (gapReached_begun hresume slot.toNat slot.toNat 1 _ (some (nextSlot slot.toNat)) _)

theorem start_call_return (hk : (s.slot slot.toNat).kind = .call)
    (hb : (s.slot (s.slot slot.toNat).target.toNat).kind = .ret) (hg : (s.slot (nextSlot slot.toNat)).kind = .gap) :
    exec (.start tag slot) s = .next { s with
      seq := gapReached (begunAt s.seq slot.toNat) (nextSlot slot.toNat) (s.slot (nextSlot slot.toNat)).time,
      lu := answered s kindCommand tag .ok [1] } := by
  obtain ⟨hresume, hd⟩ := h.2.2.2
  have called : Leads 1 (started s tag slot) _ := toward_call hd hk (by show 0 ≠ 63; decide) rfl
  have returned := called.trans (toward_return hd hb (by show 1 ≠ 63; decide) rfl)
  have gap := returned.trans (toward_gap hd hg)
  rw [exec_start_leads h hst gap (by decide) ⟨rfl, hd⟩]
  exact congrArg (fun q => Host.Outcome.next ({ s with seq := q, lu := answered s kindCommand tag .ok [1] } : State))
    (gapReached_begun hresume slot.toNat _ 2 _ none _)

theorem start_nestedCall (hk : (s.slot slot.toNat).kind = .call)
    (hb : (s.slot (s.slot slot.toNat).target.toNat).kind = .call) (hr : RoomForReports s 1) :
    exec (.start tag slot) s = .next { s with
      seq := { begunAt s.seq slot.toNat with
        state := .halted, current := (s.slot slot.toNat).target.toNat, haltCause := .nestedCall,
        haltSlot := (s.slot slot.toNat).target.toNat },
      eu := unitAfter s .seqHalt,
      lu := (replied { frameTaken s with
        reports := reportsWith s [eventNow s .seqHalt (.slot (s.slot slot.toNat).target.toNat) 2] }
        kindCommand tag .ok [1]) } := by
  have hd : s.arb.due = false := h.2.2.2.2
  have called : Leads 1 (started s tag slot) _ := toward_call hd hk (by show 0 ≠ 63; decide) rfl
  refine start_halts h hst hr (by decide) called ?_ rfl ?_
  · exact congrArg (fun r => ({ begunAt s.seq slot.toNat with
      state := .halted, current := (s.slot slot.toNat).target.toNat, haltCause := .nestedCall,
      haltSlot := (s.slot slot.toNat).target.toNat, resume := r } : Sequencer)) h.2.2.2.1.symm
  · unfold haltCheck
    rw [if_neg fun k => absurd (show (1 : Nat) = 63 from k.2) (by decide), if_pos ⟨hb, nofun⟩]

end Accepted

end Starts

end Sys2Proof.Machine
end

section
/-! PROOFS. START at an exchange slot (R111), a DRIVE slot among them (R45, R46). -/

namespace Sys2Proof.Machine

/-! ## Exchange slots (R111, R45, R46) -/

section ExchangeSlots
variable {s : State} {tag slot : Byte} {lane : Lane}

/-- R111: what an exchange slot that carries no RETRY_ON asks for. -/
def slotAsks (x : Slot) (k : FrameKind) (l : Lane) : ExchangeRequest :=
  { origin := .slot, node := x.node.toNat, kind := k, lane := l, retries := x.retries.toNat,
    alternate := x.alternate = 0, retryOn := 0, sec := 0, tag := 0, parameter := 0, value := 0 }

theorem slotRequest_eq {x : Slot} (hx : x.kind = .exchange) (hl : lanes[x.lane.toNat]? = some lane) :
    slotRequest x = slotAsks x (slotFrame x) lane := by
  have alternates : (valueOf yesNo x.alternate).getD false = decide (x.alternate = 0) := by
    by_cases h0 : x.alternate = 0
    · rw [h0]
      rfl
    · have pos : x.alternate.toNat ≠ 0 := fun k => h0 (BitVec.eq_of_toNat_eq k)
      rw [decide_eq_false h0]
      unfold valueOf yesNo
      match hn : x.alternate.toNat with
      | 0 => exact absurd hn pos
      | 1 => rfl
      | n + 2 => rfl
  have asked : slotLane x = lane := by
    unfold slotLane valueOf
    rw [hl]
    rfl
  unfold slotRequest slotAsks
  rw [asked, alternates, if_neg (by rw [hx]; nofun)]

/-- The state in which the exchange of the slot that START began begins. -/
def atExchange (s : State) (tag slot : Byte) : State :=
  (s.withLu (responding s kindCommand tag .ok [1])).withSeq
    { begunAt s.seq slot.toNat with resume := none, activity := .exchange }

variable (h : Ready s)
include h

/-- R111: START at an exchange slot ends with what its exchange begins. -/
theorem start_exchange {k : FrameKind} {u : State} (hst : s.seq.state = .idle ∨ s.seq.state = .halted)
    (hx : (s.slot slot.toNat).kind = .exchange) (hl : lanes[(s.slot slot.toNat).lane.toNat]? = some lane)
    (hf : slotFrame (s.slot slot.toNat) = k) (hk : s.kindOf (s.slot slot.toNat).node.toNat ≠ .none)
    (hs : k = .drive → s.kindOf (s.slot slot.toNat).node.toNat ≠ .sensor)
    (hb : beginExchange (slotAsks (s.slot slot.toNat) k lane) (atExchange s tag slot) = u) (hu : Settled u) :
    exec (.start tag slot) s = .next (u.withLu (sendIfFree u.lu)) := by
  have hd : s.arb.due = false := h.2.2.2.2
  have reached : Leads 1 (started s tag slot)
      (beginExchange (slotRequest (s.slot slot.toNat)) (atExchange s tag slot)) :=
    toward_exchange hd hx hk (fun d => hs (hf.symm.trans d)) nofun
  rw [slotRequest_eq hx hl, hf, hb] at reached
  exact exec_start_leads h hst reached (by decide) hu

omit h in
theorem not_bothDown_of_up (hup : (s.lane lane).health = .up) : ¬ s.BothDown := by
  intro ⟨hA, hB⟩
  cases lane with
  | a => exact absurd (hup.symm.trans hA) (by decide)
  | b => exact absurd (hup.symm.trans hB) (by decide)

omit h in
/-- R78: the first attempt goes on the lane asked for, while that one is UP. -/
theorem attemptLane_asked {q : ExchangeRequest} (ho : q.origin ≠ .laneProbe) (hup : (s.lane q.lane).health = .up) :
    attemptLane s q 1 = some q.lane := by
  unfold attemptLane
  rw [if_neg ho]
  dsimp only
  rw [if_neg (c := q.alternate = true ∧ 1 % 2 = 0) fun k => absurd k.2 (by decide), if_pos hup]

variable (hst : s.seq.state = .idle ∨ s.seq.state = .halted)
  (hx : (s.slot slot.toNat).kind = .exchange) (hl : lanes[(s.slot slot.toNat).lane.toNat]? = some lane)
  (ha : (s.node (s.slot slot.toNat).node.toNat).health = .active) (hup : (s.lane lane).health = .up)
include hst hx hl ha hup

theorem start_poll (hf : (s.slot slot.toNat).frame = 0) (hk : s.kindOf (s.slot slot.toNat).node.toNat ≠ .none) :
    exec (.start tag slot) s = .next { s with
      seq := { begunAt s.seq slot.toNat with activity := .exchange },
      xe := { s.xe with flight := some (firstAttempt s (slotAsks (s.slot slot.toNat) .poll lane)
        lane none false (commandFrame (s.slot slot.toNat).node.toNat .poll [])) },
      lu := answered s kindCommand tag .ok [1] } := by
  obtain ⟨hresume, hd⟩ := h.2.2.2
  have passes : requestCheck (atExchange s tag slot) (slotAsks (s.slot slot.toNat) .poll lane) = none :=
    requestCheck_passes hk nofun (fun _ => ha) nofun fun _ => not_bothDown_of_up (s := s) hup
  have begins := beginExchange_first passes
    (attemptLane_asked (s := atExchange s tag slot) (q := slotAsks (s.slot slot.toNat) .poll lane) nofun hup) nofun
  rw [start_exchange h hst hx hl (if_neg (by rw [hf]; decide)) hk nofun begins ⟨rfl, hd⟩]
  exact congrArg (fun r => Host.Outcome.next ({ s with
    seq := { begunAt s.seq slot.toNat with activity := .exchange, resume := r },
    xe := { s.xe with flight := some (firstAttempt s (slotAsks (s.slot slot.toNat) .poll lane)
      lane none false (commandFrame (s.slot slot.toNat).node.toNat .poll [])) },
    lu := answered s kindCommand tag .ok [1] } : State)) hresume.symm

theorem start_drive (hf : (s.slot slot.toNat).frame = 1) (hk : isActuator (s.kindOf (s.slot slot.toNat).node.toNat) = true) :
    let a := (s.slot slot.toNat).node.toNat
    let before := sourceValue s a
    let sent := limitedValue s a before
    exec (.start tag slot) s = .next { s with
      seq := { begunAt s.seq slot.toNat with activity := .exchange },
      sections := clampsCounted s a before,
      xe := { s.xe with flight := some (firstAttempt s (slotAsks (s.slot slot.toNat) .drive lane)
        lane (some sent) (decide (sent ≠ before)) (commandFrame a .drive (natOctets sent))) },
      lu := answered s kindCommand tag .ok [1] } := by
  intro a before sent
  obtain ⟨hresume, hd⟩ := h.2.2.2
  have known : s.kindOf a ≠ .none := fun k => absurd ((congrArg isActuator k).symm.trans hk) (by decide)
  have drives : s.kindOf a ≠ .sensor := fun k => absurd ((congrArg isActuator k).symm.trans hk) (by decide)
  have passes : requestCheck (atExchange s tag slot) (slotAsks (s.slot slot.toNat) .drive lane) = none :=
    requestCheck_passes known (fun _ => hk) (fun _ => ha) nofun fun _ => not_bothDown_of_up (s := s) hup
  have value : valueBeforeLimits (atExchange s tag slot) (slotAsks (s.slot slot.toNat) .drive lane) = before :=
    (if_neg (by show Origin.slot ≠ .flushStart; decide)).trans (demandSource_eq s a)
  have begins := beginExchange_drive passes
    (attemptLane_asked (s := atExchange s tag slot) (q := slotAsks (s.slot slot.toNat) .drive lane) nofun hup) rfl
  dsimp only at begins
  rw [value] at begins
  rw [start_exchange h hst hx hl (if_pos hf) known (fun _ => drives) begins ⟨rfl, hd⟩]
  exact congrArg (fun r => Host.Outcome.next ({ s with
    seq := { begunAt s.seq slot.toNat with activity := .exchange, resume := r },
    sections := clampsCounted s a before,
    xe := { s.xe with flight := some (firstAttempt s (slotAsks (s.slot slot.toNat) .drive lane)
      lane (some sent) (decide (sent ≠ before)) (commandFrame a .drive (natOctets sent))) },
    lu := answered s kindCommand tag .ok [1] } : State)) hresume.symm

end ExchangeSlots

/-- Settles O48: the value sent is the one within the limits, and the DRIVE slot begins with it. -/
theorem driveSlotClamps : Obligations.DriveSlotClamps := by
  intro tag slot lane s h hst x a hx hf hl hk ha hup
  exact ⟨limitedValue_within s a (sourceValue s a), start_drive h hst hx hl ha hup hf hk⟩

end Sys2Proof.Machine
end

section
/-! PROOFS. What a WINDOW slot opens and what its first decision grants (R115, R129 to R134), and START (R100). -/

namespace Sys2Proof.Machine

/-! ## The decision where one queue is filled (R128 to R132) -/

section Decisions
variable {s : State}

theorem onlySource_frost {a : Nat} {rest : List Nat} (hf : s.arb.frost = a :: rest) (hu : s.arb.flush = [])
    (hp : s.arb.pass = []) (hb : s.arb.probe = []) : OnlySource s .frost := by
  intro x
  cases x <;> simp [sourceFull, hp, hf, hu, hb]

theorem onlySource_flush {r : FlushRequest} {rest : List FlushRequest} (hu : s.arb.flush = r :: rest) (hf : s.arb.frost = [])
    (hp : s.arb.pass = []) (hb : s.arb.probe = []) : OnlySource s .flush := by
  intro x
  cases x <;> simp [sourceFull, hp, hf, hu, hb]

theorem onlySource_probe {p : ProbeTarget} {rest : List ProbeTarget} (hb : s.arb.probe = p :: rest) (hf : s.arb.frost = [])
    (hu : s.arb.flush = []) (hp : s.arb.pass = []) : OnlySource s .probe := by
  intro x
  cases x <;> simp [sourceFull, hp, hf, hu, hb]

/-- R130: the budget of a frame of `n` octets. -/
def budgetOf (s : State) (n : Nat) : Nat := (n + 7) * 40 + 10 * s.cfg.linkSet.responseTimeout + 120

/-- R132, R45: a DRIVE that the arbiter requests, with the arbiter at `A`. -/
theorem requestExchange_drive {q : ExchangeRequest} {before : Nat} (A : Arbiter) (hk : q.kind = .drive)
    (ha : isActuator (s.kindOf q.node) = true) (hact : q.origin.ordinary = true → (s.node q.node).health = .active)
    (ho : q.origin ≠ .laneProbe) (halt : q.alternate = false) (hl : q.lane = (s.nodeCfg q.node).lane) (hup : ¬ s.BothDown)
    (hv : valueBeforeLimits s q = before) : requestExchange q (s.withArb A) = { s with
      sections := clampsCounted s q.node before,
      xe := { s.xe with flight := some (grantedDrive s q before) },
      arb := { A with window := { A.window with inFlight := some q.origin } } } := by
  have known : s.kindOf q.node ≠ .none := fun k => absurd ((congrArg isActuator k).symm.trans ha) (by decide)
  let v : State := s.withArb { A with window := { A.window with inFlight := some q.origin } }
  have passes : requestCheck v q = none :=
    requestCheck_passes known (fun _ => ha) hact (fun k => absurd k ho) (fun _ => hup)
  have begins := beginExchange_drive passes (attemptLane_preferred (s := v) ho halt hl hup 1) hk
  have value : valueBeforeLimits v q = before := hv
  dsimp only at begins
  rw [value] at begins
  exact begins

/-- R132: a probe that the arbiter requests, with the arbiter at `A`. -/
theorem requestExchange_probe {q : ExchangeRequest} {l : Lane} (A : Arbiter) (hk : q.kind = .probe)
    (known : s.kindOf q.node ≠ .none) (hact : q.origin.ordinary = false) (ha : q.origin = .laneProbe → q.node ≠ 0)
    (hb : q.origin ≠ .laneProbe → ¬ s.BothDown) (hl : attemptLane s q 1 = some l) :
    requestExchange q (s.withArb A) = { s with
      xe := { s.xe with flight := some (firstAttempt s q l none false (commandFrame q.node .probe [])) },
      arb := { A with window := { A.window with inFlight := some q.origin } } } := by
  let v : State := s.withArb { A with window := { A.window with inFlight := some q.origin } }
  have passes : requestCheck v q = none :=
    requestCheck_passes known (fun k => absurd (hk.symm.trans k) (by decide))
      (fun k => absurd (hact.symm.trans k) (by decide)) ha hb
  have payload : framePayload q 0 = [] := by
    unfold framePayload
    rw [hk]
  have begins := beginExchange_first passes (s := v) hl (by rw [hk]; decide)
  rw [hk, payload] at begins
  exact begins

section Window
variable (ho : s.arb.window.isOpen = true) (hst : s.arb.window.stopping = false) (hn : s.arb.window.inFlight = none)
include ho hst hn

theorem makeDecision_frost {a : Nat} {rest : List Nat} (hf : s.arb.frost = a :: rest) (hu : s.arb.flush = [])
    (hp : s.arb.pass = []) (hb : s.arb.probe = []) (hup : ¬ s.BothDown) (hfits : budgetOf s 5 ≤ timeLeft s)
    (ha : isActuator (s.kindOf a) = true) (hact : (s.node a).health = .active) : makeDecision s = { s with
      sections := clampsCounted s a (sourceValue s a),
      xe := { s.xe with flight := some (grantedDrive s (arbiterAsks s .frost a .drive) (sourceValue s a)) },
      arb := { pointersMoved .frost s.cfg.linkSet.frostLevel s.arb with
        frost := rest, window := { s.arb.window with inFlight := some .frost }, due := false } } := by
  have costs : budget s .frost = budgetOf s 5 := rfl
  rw [makeDecision_only ho hst hn (onlySource_frost hf hu hp hb) (by decide), costs, if_pos hfits]
  refine (grant_frost (s := s.withArb { s.arb with due := false }) rfl hf).trans ?_
  rw [movePointers_eq, pointersMoved_eq, pointersMoved_eq]
  exact requestExchange_drive (q := arbiterAsks s .frost a .drive) _ rfl ha (fun _ => hact) nofun rfl rfl hup
    ((if_neg (by show Origin.frost ≠ .flushStart; decide)).trans (demandSource_eq s a))

/-- R130, R134: a fixed window closes where the head of the one filled queue does not fit. -/
theorem makeDecision_over {p : Position} (hs : OnlySource s p) (hp : p ∈ sources) (hover : ¬ budget s p ≤ timeLeft s) :
    makeDecision s = closeWindow (s.withArb { s.arb with due := false }) := by
  rw [makeDecision_only ho hst hn hs hp, if_neg hover]

theorem makeDecision_nodeProbe {a : Nat} {rest : List ProbeTarget} (hb : s.arb.probe = .node a :: rest)
    (hf : s.arb.frost = []) (hu : s.arb.flush = []) (hp : s.arb.pass = []) (hup : ¬ s.BothDown)
    (hfits : budgetOf s 3 ≤ timeLeft s) (ha : s.kindOf a ≠ .none) : makeDecision s = { s with
      xe := { s.xe with flight := some (firstAttempt s (arbiterAsks s .nodeProbe a .probe) (preferredLane s a)
        none false (commandFrame a .probe [])) },
      arb := { pointersMoved .probe s.cfg.linkSet.probeLevel s.arb with
        probe := rest, window := { s.arb.window with inFlight := some .nodeProbe }, due := false } } := by
  have costs : budget s .probe = budgetOf s 3 := rfl
  rw [makeDecision_only ho hst hn (onlySource_probe hb hf hu hp) (by decide), costs, if_pos hfits]
  refine (grant_probe (s := s.withArb { s.arb with due := false }) rfl hb).trans ?_
  rw [movePointers_eq, pointersMoved_eq, pointersMoved_eq]
  exact requestExchange_probe (q := arbiterAsks s .nodeProbe a .probe) _ rfl ha rfl nofun (fun _ => hup)
    (attemptLane_preferred (show Origin.nodeProbe ≠ .laneProbe by decide) rfl rfl hup 1)

theorem makeDecision_laneProbe {l : Lane} {rest : List ProbeTarget} (hb : s.arb.probe = .lane l :: rest)
    (hf : s.arb.frost = []) (hu : s.arb.flush = []) (hp : s.arb.pass = [])
    (hfits : budgetOf s 3 ≤ timeLeft s) (ha : s.kindOf (probeTarget s) ≠ .none) (h0 : probeTarget s ≠ 0) :
    makeDecision s = { s with
      xe := { s.xe with flight := some (firstAttempt s
        { arbiterAsks s .laneProbe (probeTarget s) .probe with lane := l } l
        none false (commandFrame (probeTarget s) .probe [])) },
      arb := { pointersMoved .probe s.cfg.linkSet.probeLevel s.arb with
        probe := rest, window := { s.arb.window with inFlight := some .laneProbe }, due := false } } := by
  have costs : budget s .probe = budgetOf s 3 := rfl
  rw [makeDecision_only ho hst hn (onlySource_probe hb hf hu hp) (by decide), costs, if_pos hfits]
  refine (grant_probe (s := s.withArb { s.arb with due := false }) rfl hb).trans ?_
  rw [movePointers_eq, pointersMoved_eq, pointersMoved_eq]
  exact requestExchange_probe (q := { arbiterAsks s .laneProbe (probeTarget s) .probe with lane := l }) _ rfl ha rfl
    (fun _ => h0) (fun k => absurd rfl k) (if_pos rfl)

end Window

/-- R85: the node that probes a lane. -/
theorem probeTarget_eq {a : Nat} (h : (a = s.xe.lastGood ∧ a ≠ 0 ∧ s.kindOf a ≠ .none)
    ∨ ((s.xe.lastGood = 0 ∨ s.kindOf s.xe.lastGood = .none) ∧ 1 ≤ a ∧ a ≤ 48 ∧ s.kindOf a ≠ .none
      ∧ ∀ k, k < a → s.kindOf k = .none)) : probeTarget s = a := by
  unfold probeTarget
  obtain ⟨hg, h0, hk⟩ | ⟨hg, h1, h48, hk, first⟩ := h
  · rw [← hg, if_pos ⟨h0, hk⟩]
  · have found : nodeAddresses.find? (fun a => s.kindOf a != .none) = some a := by
      refine List.find?_range'_eq_some.mpr ⟨by simpa using hk, mem_nodeAddresses.mpr ⟨h1, h48⟩, fun j _ hj => ?_⟩
      simpa using first j hj
    rw [if_neg fun k => hg.elim k.1 k.2, found]
    rfl

/-! ## A FLUSH request that is granted (R60, R65, R132) -/

section Flush
variable {r : FlushRequest}

/-- TABLE 6-4: the origin of a FLUSH request. -/
abbrev flushOrigin (r : FlushRequest) : Origin := if r.kind = .pulseStart then .flushStart else .flushEnd

/-- R60, R65: a FLUSH request passes the checks of Flush Accounting. -/
abbrev FlushPasses (s : State) (r : FlushRequest) : Prop :=
  (s.secCfg r.sec).enabled = true ∧ (s.node (s.secCfg r.sec).valve).health = .active
    ∧ (r.kind = .pulseStart ∨ (s.sec r.sec).flow ≠ .flushing)

/-- R60: a START that is skipped reports the block. -/
abbrev SkipReports (s : State) (r : FlushRequest) : Prop :=
  r.kind = .pulseStart ∧ (s.secCfg r.sec).enabled = true ∧ (s.sec r.sec).blocked = false

theorem flushExchange_eq (s : State) (r : FlushRequest) : flushExchange s r =
    { arbiterAsks s (flushOrigin r) (s.secCfg r.sec).valve .drive with sec := r.sec } := by
  unfold flushExchange flushOrigin
  cases r.kind <;> rfl

theorem flushLevel_eq {rest : List FlushRequest} (h : s.arb.flush = r :: rest) : levelInEffect s .flush =
    if r.kind = .pulseStart ∧ r.mandatory = true then .urgent else s.cfg.linkSet.flushLevel := by
  unfold levelInEffect mandatoryHead
  rw [h]
  dsimp only
  refine if_congr ?_ rfl rfl
  rw [Bool.and_eq_true, beq_iff_eq]

theorem flushGrantPasses_iff : flushGrantPasses s r = true ↔ FlushPasses s r := by
  have active (x : Health) : (x != .silent) = true ↔ x = .active := by cases x <;> decide
  unfold flushGrantPasses FlushPasses
  dsimp only
  rw [Bool.and_eq_true, Bool.and_eq_true, active, and_assoc]
  refine and_congr_right fun _ => and_congr_right fun _ => ?_
  cases hk : r.kind with
  | pulseStart => simp
  | pulseEnd => simp

/-- R60, R132: a FLUSH request that passes is sent as a DRIVE, with the arbiter at `A`. -/
theorem grantFlush_passes (A : Arbiter) (h : FlushPasses s r) (hup : ¬ s.BothDown)
    (ha : isActuator (s.kindOf (s.secCfg r.sec).valve) = true) :
    let v := (s.secCfg r.sec).valve
    let before := if r.kind = .pulseStart then 1000 else sourceValue s v
    grantFlush r (s.withArb A) = { s with
      sections := clampsCounted s v before,
      xe := { s.xe with
        flight := some (grantedDrive s { arbiterAsks s (flushOrigin r) v .drive with sec := r.sec } before) },
      arb := { A with window := { A.window with inFlight := some (flushOrigin r) } } } := by
  intro v before
  have passes : flushGrantPasses (s.withArb A) r = true := flushGrantPasses_iff.mpr h
  let q : ExchangeRequest := { arbiterAsks s (flushOrigin r) v .drive with sec := r.sec }
  have asks : flushExchange (s.withArb A) r = q := flushExchange_eq (s.withArb A) r
  have value : valueBeforeLimits s q = before := by
    unfold valueBeforeLimits
    rw [demandSource_eq]
    show (if flushOrigin r = .flushStart then 1000 else sourceValue s v) = before
    unfold flushOrigin before
    cases r.kind <;> rfl
  have notProbe : q.origin ≠ .laneProbe := by
    show flushOrigin r ≠ .laneProbe
    unfold flushOrigin
    split <;> decide
  unfold grantFlush
  rw [if_pos passes, asks]
  exact requestExchange_drive (q := q) A rfl ha (fun _ => h.2.1) notProbe rfl rfl hup value

/-- R60, R65, R132: a FLUSH request that does not pass is skipped, with the arbiter at `A`, and the next decision is
due. -/
theorem grantFlush_skips (A : Arbiter) (h : ¬ FlushPasses s r) (hr : RoomForReports s 1) :
    grantFlush r (s.withArb A) = { s with
      sections := if SkipReports s r then s.sections.setIfInBounds r.sec { s.sec r.sec with blocked := true }
        else s.sections,
      arb := { A with due := true },
      eu := if SkipReports s r then unitAfter s .flushBlocked else s.eu,
      lu := { s.lu with
        reports := if SkipReports s r then reportsWith s [eventNow s .flushBlocked (.sec r.sec) 0]
          else s.lu.reports } } := by
  have fails : ¬ flushGrantPasses (s.withArb A) r = true := fun k => h (flushGrantPasses_iff.mp k)
  unfold grantFlush
  rw [if_neg fails]
  by_cases hs : SkipReports s r
  · obtain ⟨hk, he, hb⟩ := id hs
    have reported : flushGrantSkipped r (s.withArb A)
        = raise .flushBlocked (.sec r.sec) 0 ((s.withArb A).setSec r.sec { s.sec r.sec with blocked := true }) := by
      unfold flushGrantSkipped reportBlocked
      rw [hk]
      dsimp only
      rw [if_pos (by exact he), if_neg (by rw [show ((s.withArb A).sec r.sec).blocked = false from hb]; nofun)]
      rfl
    rw [reported, raise_room (by decide) (by exact hr), if_pos hs, if_pos hs, if_pos hs]
    rfl
  · have silent : flushGrantSkipped r (s.withArb A) = s.withArb A := by
      unfold flushGrantSkipped reportBlocked
      cases hk : r.kind with
      | pulseEnd => rfl
      | pulseStart =>
        dsimp only
        by_cases he : (s.secCfg r.sec).enabled = true
        · have hb : (s.sec r.sec).blocked = true := by
            by_contra k
            exact hs ⟨hk, he, by simpa using k⟩
          rw [if_pos (by exact he), if_pos (by exact hb)]
        · rw [if_neg (by exact he)]
    rw [silent, if_neg hs, if_neg hs, if_neg hs]
    rfl

/-- R128 to R130: the decision where FLUSH requests alone are queued and the head's budget fits. -/
theorem makeDecision_flush {rest : List FlushRequest} (ho : s.arb.window.isOpen = true)
    (hst : s.arb.window.stopping = false) (hn : s.arb.window.inFlight = none) (hu : s.arb.flush = r :: rest)
    (hf : s.arb.frost = []) (hp : s.arb.pass = []) (hb : s.arb.probe = []) (hfits : budgetOf s 5 ≤ timeLeft s) :
    makeDecision s = grantFlush r (s.withArb { pointersMoved .flush
        (if r.kind = .pulseStart ∧ r.mandatory = true then .urgent else s.cfg.linkSet.flushLevel) s.arb with
      flush := rest, due := false }) := by
  have costs : budget s .flush = budgetOf s 5 := rfl
  rw [makeDecision_only ho hst hn (onlySource_flush hu hf hp hb) (by decide), costs, if_pos hfits]
  refine (grant_flush (s := s.withArb { s.arb with due := false }) rfl hu).trans ?_
  rw [movePointers_eq, flushLevel_eq hu, pointersMoved_eq, pointersMoved_eq]
  rfl

end Flush

end Decisions

/-! ## START at a WINDOW slot (R115, R131) -/

section Windows
variable {s : State} {tag slot : Byte}

/-- A window open at the current slot of the walk at `q`. -/
def State.inWindow (v : State) (q : Sequencer) (w : Window) (d : Bool) : State :=
  (v.withSeq { q with resume := none, activity := .window }).withArb { v.arb with window := w, due := d }

/-- R134: the window of the walk at `q` closes, and the walk goes on to a GAP. -/
theorem closeWindow_inWindow {v : State} {q : Sequencer} {w : Window} (hq : q.state = .running)
    (hg : (v.slot (nextSlot q.current)).kind = .gap) : Leads 1 (closeWindow (v.inWindow q w false))
      ((v.withSeq { gapReached q (nextSlot q.current) (v.slot (nextSlot q.current)).time with resume := none }).withArb
        { windowShut v.arb with due := false }) :=
  closeWindow_gap (s := v.inWindow q w false) ⟨rfl, rfl⟩ hq hg

/-- The state of a START whose window has been opened, with its first decision due. -/
def atWindow (s : State) (tag slot : Byte) : State :=
  (s.withLu (responding s kindCommand tag .ok [1])).inWindow (begunAt s.seq slot.toNat)
    (windowOpened (begunAt s.seq slot.toNat) (s.slot slot.toNat)) true

theorem windowOpened_fresh (q : Sequencer) (x : Slot) : (windowOpened q x).isOpen = true
    ∧ (windowOpened q x).stopping = false ∧ (windowOpened q x).inFlight = none := by
  unfold windowOpened
  split <;> exact ⟨rfl, rfl, rfl⟩

variable (h : Ready s) (hst : s.seq.state = .idle ∨ s.seq.state = .halted) (hx : (s.slot slot.toNat).kind = .window)
include h hst hx

theorem start_window {n : Nat} {t : State} (hl : Leads n (makeDecision (atWindow s tag slot)) t) (hn : n ≤ 1000)
    (ht : Settled t) : exec (.start tag slot) s = .next (t.withLu (sendIfFree t.lu)) := by
  have opened : Leads 1 (started s tag slot) (atWindow s tag slot) := toward_window h.2.2.2.2 hx nofun
  have decided : Leads 1 (atWindow s tag slot) (makeDecision (atWindow s tag slot)) := .one (settleOnce_due rfl)
  exact exec_start_leads h hst (opened.trans (decided.trans hl)) (by omega) ht

/-- R134: the window closes at its first decision, and the walk goes on to a GAP. -/
theorem start_window_closes (hc : makeDecision (atWindow s tag slot)
      = closeWindow ((atWindow s tag slot).withArb { (atWindow s tag slot).arb with due := false }))
    (hg : (s.slot (nextSlot slot.toNat)).kind = .gap) : exec (.start tag slot) s = .next { s with
      seq := gapReached (begunAt s.seq slot.toNat) (nextSlot slot.toNat) (s.slot (nextSlot slot.toNat)).time,
      arb := windowShut s.arb, lu := answered s kindCommand tag .ok [1] } := by
  have shut := closeWindow_inWindow (v := s.withLu (responding s kindCommand tag .ok [1])) (q := begunAt s.seq slot.toNat)
    (w := (atWindow s tag slot).arb.window) rfl hg
  have closing : makeDecision (atWindow s tag slot) = closeWindow ((s.withLu (responding s kindCommand tag .ok [1])).inWindow
    (begunAt s.seq slot.toNat) (atWindow s tag slot).arb.window false) := hc
  rw [← closing] at shut
  rw [start_window h hst hx shut (by decide) ⟨rfl, rfl⟩]
  exact congrArg₂ (fun (r : Option Nat) (d : Bool) => Host.Outcome.next ({ s with
    seq := { gapReached (begunAt s.seq slot.toNat) (nextSlot slot.toNat) (s.slot (nextSlot slot.toNat)).time with
      resume := r },
    arb := { windowShut s.arb with due := d },
    lu := answered s kindCommand tag .ok [1] } : State)) h.2.2.2.1.symm h.2.2.2.2.symm

/-- R115, R134: a window that finds every queue empty closes at once. -/
theorem start_window_empty (hq : NothingQueued s) (hg : (s.slot (nextSlot slot.toNat)).kind = .gap) :
    exec (.start tag slot) s = .next { s with
      seq := gapReached (begunAt s.seq slot.toNat) (nextSlot slot.toNat) (s.slot (nextSlot slot.toNat)).time,
      arb := windowShut s.arb, lu := answered s kindCommand tag .ok [1] } := by
  obtain ⟨isOpen, running, free⟩ := windowOpened_fresh (begunAt s.seq slot.toNat) (s.slot slot.toNat)
  exact start_window_closes h hst hx (makeDecision_closes isOpen running free hq (.inr nofun)) hg

section Fixed
variable (h0 : (s.slot slot.toNat).time ≠ 0)
include h0

omit h hst hx in
theorem atWindow_fixed : (atWindow s tag slot).arb.window =
    { isOpen := true, kind := .fixed, length := 100 * (s.slot slot.toNat).time.toNat, elapsed := 0, stopping := false,
      inFlight := none } := if_neg h0

omit h hst hx in
theorem atWindow_timeLeft : timeLeft (atWindow s tag slot) = 100 * (s.slot slot.toNat).time.toNat := by
  unfold timeLeft
  rw [atWindow_fixed h0]
  rfl

omit h0 in
/-- R132: the window grants at its first decision. -/
theorem start_window_grants {S : Vector SectionState 8} {X : ExchangeEngine} {A : Arbiter} (hA : A.due = false)
    (hc : makeDecision (atWindow s tag slot) = { atWindow s tag slot with sections := S, xe := X, arb := A }) :
    exec (.start tag slot) s = .next { s with
      seq := { begunAt s.seq slot.toNat with activity := .window }, sections := S, xe := X, arb := A,
      lu := answered s kindCommand tag .ok [1] } := by
  have grants := Leads.refl (makeDecision (atWindow s tag slot))
  have settled : Settled (makeDecision (atWindow s tag slot)) := by
    rw [hc]
    exact ⟨rfl, hA⟩
  rw [start_window h hst hx grants (by decide) settled, hc]
  exact congrArg (fun r : Option Nat => Host.Outcome.next ({ s with
    seq := { begunAt s.seq slot.toNat with activity := .window, resume := r }, sections := S, xe := X, arb := A,
    lu := answered s kindCommand tag .ok [1] } : State)) h.2.2.2.1.symm

omit h hst hx in
/-- R115, R129: the arbiter once the fixed window that START opened has granted. -/
theorem granted_arb (p : Position) (l : Level) (o : Origin) (hd : s.arb.due = false) :
    { pointersMoved p l (atWindow s tag slot).arb with
      window := { (atWindow s tag slot).arb.window with inFlight := some o }, due := false }
      = { pointersMoved p l s.arb with window := fixedWindow (s.slot slot.toNat).time o } := by
  rw [atWindow_fixed h0, pointersMoved_eq, pointersMoved_eq]
  exact congrArg (fun d => { s.arb with
    urgent := if l = Level.urgent then p else .group, routine := if l = Level.urgent then s.arb.routine else p,
    window := fixedWindow (s.slot slot.toNat).time o, due := d }) hd.symm

omit h hst hx h0 in
theorem pointersMoved_due (p : Position) (l : Level) (a : Arbiter) : (pointersMoved p l a).due = a.due := by
  rw [pointersMoved_eq]

section Fits
variable (hp : s.arb.pass = [])
include hp

theorem start_window_frost {a : Nat} {rest : List Nat} (hf : s.arb.frost = a :: rest) (hu : s.arb.flush = [])
    (hb : s.arb.probe = []) (hup : ¬ s.BothDown) (hfits : budgetOf s 5 ≤ 100 * (s.slot slot.toNat).time.toNat)
    (ha : isActuator (s.kindOf a) = true) (hact : (s.node a).health = .active) : exec (.start tag slot) s = .next { s with
      seq := { begunAt s.seq slot.toNat with activity := .window }, sections := clampsCounted s a (sourceValue s a),
      xe := { s.xe with flight := some (grantedDrive s (arbiterAsks s .frost a .drive) (sourceValue s a)) },
      arb := { pointersMoved .frost s.cfg.linkSet.frostLevel s.arb with
        frost := rest, window := fixedWindow (s.slot slot.toNat).time .frost },
      lu := answered s kindCommand tag .ok [1] } := by
  have hd : s.arb.due = false := h.2.2.2.2
  obtain ⟨isOpen, running, free⟩ := windowOpened_fresh (begunAt s.seq slot.toNat) (s.slot slot.toNat)
  have decided := makeDecision_frost (s := atWindow s tag slot) isOpen running free hf hu hp hb hup
    (by rw [atWindow_timeLeft h0]; exact hfits) ha hact
  refine start_window_grants h hst hx ((pointersMoved_due ..).trans hd) (decided.trans ?_)
  exact congrArg (fun A : Arbiter => { atWindow s tag slot with
    sections := clampsCounted s a (sourceValue s a),
    xe := { s.xe with flight := some (grantedDrive s (arbiterAsks s .frost a .drive) (sourceValue s a)) },
    arb := { A with frost := rest } }) (granted_arb h0 .frost s.cfg.linkSet.frostLevel .frost hd)

theorem start_window_nodeProbe {a : Nat} {rest : List ProbeTarget} (hb : s.arb.probe = .node a :: rest)
    (hf : s.arb.frost = []) (hu : s.arb.flush = []) (hup : ¬ s.BothDown)
    (hfits : budgetOf s 3 ≤ 100 * (s.slot slot.toNat).time.toNat) (ha : s.kindOf a ≠ .none) :
    exec (.start tag slot) s = .next { s with
      seq := { begunAt s.seq slot.toNat with activity := .window },
      xe := { s.xe with flight := some (firstAttempt s (arbiterAsks s .nodeProbe a .probe) (preferredLane s a)
        none false (commandFrame a .probe [])) },
      arb := { pointersMoved .probe s.cfg.linkSet.probeLevel s.arb with
        probe := rest, window := fixedWindow (s.slot slot.toNat).time .nodeProbe },
      lu := answered s kindCommand tag .ok [1] } := by
  have hd : s.arb.due = false := h.2.2.2.2
  obtain ⟨isOpen, running, free⟩ := windowOpened_fresh (begunAt s.seq slot.toNat) (s.slot slot.toNat)
  have decided := makeDecision_nodeProbe (s := atWindow s tag slot) isOpen running free hb hf hu hp hup
    (by rw [atWindow_timeLeft h0]; exact hfits) ha
  refine start_window_grants (S := s.sections) h hst hx ((pointersMoved_due ..).trans hd) (decided.trans ?_)
  exact congrArg (fun A : Arbiter => { atWindow s tag slot with
    xe := { s.xe with flight := some (firstAttempt s (arbiterAsks s .nodeProbe a .probe) (preferredLane s a)
      none false (commandFrame a .probe [])) },
    arb := { A with probe := rest } }) (granted_arb h0 .probe s.cfg.linkSet.probeLevel .nodeProbe hd)

theorem start_window_laneProbe {a : Nat} {l : Lane} {rest : List ProbeTarget} (hb : s.arb.probe = .lane l :: rest)
    (hf : s.arb.frost = []) (hu : s.arb.flush = []) (hfits : budgetOf s 3 ≤ 100 * (s.slot slot.toNat).time.toNat)
    (hk : s.kindOf a ≠ .none) (ha : a ≠ 0) (htarget : probeTarget s = a) :
    exec (.start tag slot) s = .next { s with
      seq := { begunAt s.seq slot.toNat with activity := .window },
      xe := { s.xe with flight := some (firstAttempt s { arbiterAsks s .laneProbe a .probe with lane := l } l
        none false (commandFrame a .probe [])) },
      arb := { pointersMoved .probe s.cfg.linkSet.probeLevel s.arb with
        probe := rest, window := fixedWindow (s.slot slot.toNat).time .laneProbe },
      lu := answered s kindCommand tag .ok [1] } := by
  have hd : s.arb.due = false := h.2.2.2.2
  obtain ⟨isOpen, running, free⟩ := windowOpened_fresh (begunAt s.seq slot.toNat) (s.slot slot.toNat)
  have target : probeTarget (atWindow s tag slot) = a := htarget
  have decided := makeDecision_laneProbe (s := atWindow s tag slot) isOpen running free hb hf hu hp
    (by rw [atWindow_timeLeft h0]; exact hfits) (by rw [target]; exact hk) (by rw [target]; exact ha)
  rw [target] at decided
  refine start_window_grants (S := s.sections) h hst hx ((pointersMoved_due ..).trans hd) (decided.trans ?_)
  exact congrArg (fun A : Arbiter => { atWindow s tag slot with
    xe := { s.xe with flight := some (firstAttempt s { arbiterAsks s .laneProbe a .probe with lane := l } l
      none false (commandFrame a .probe [])) },
    arb := { A with probe := rest } }) (granted_arb h0 .probe s.cfg.linkSet.probeLevel .laneProbe hd)

theorem start_window_flush {r : FlushRequest} {rest : List FlushRequest} (hu : s.arb.flush = r :: rest)
    (hf : s.arb.frost = []) (hb : s.arb.probe = []) (hup : ¬ s.BothDown)
    (hfits : budgetOf s 5 ≤ 100 * (s.slot slot.toNat).time.toNat) (hpass : FlushPasses s r)
    (ha : isActuator (s.kindOf (s.secCfg r.sec).valve) = true) :
    let v := (s.secCfg r.sec).valve
    let before := if r.kind = .pulseStart then 1000 else sourceValue s v
    let level : Level := if r.kind = .pulseStart ∧ r.mandatory = true then .urgent else s.cfg.linkSet.flushLevel
    exec (.start tag slot) s = .next { s with
      seq := { begunAt s.seq slot.toNat with activity := .window }, sections := clampsCounted s v before,
      xe := { s.xe with
        flight := some (grantedDrive s { arbiterAsks s (flushOrigin r) v .drive with sec := r.sec } before) },
      arb := { pointersMoved .flush level s.arb with
        flush := rest, window := fixedWindow (s.slot slot.toNat).time (flushOrigin r) },
      lu := answered s kindCommand tag .ok [1] } := by
  intro v before level
  have hd : s.arb.due = false := h.2.2.2.2
  obtain ⟨isOpen, running, free⟩ := windowOpened_fresh (begunAt s.seq slot.toNat) (s.slot slot.toNat)
  have decided := makeDecision_flush (s := atWindow s tag slot) isOpen running free hu hf hp hb
    (by rw [atWindow_timeLeft h0]; exact hfits)
  rw [grantFlush_passes (s := atWindow s tag slot) _ hpass hup ha, pointersMoved_eq] at decided
  refine start_window_grants h hst hx ((pointersMoved_due ..).trans hd) (decided.trans ?_)
  have arb := granted_arb (tag := tag) h0 .flush level (flushOrigin r) hd
  rw [pointersMoved_eq .flush level (atWindow s tag slot).arb] at arb
  exact congrArg (fun A : Arbiter => { atWindow s tag slot with
    sections := clampsCounted s v before,
    xe := { s.xe with
      flight := some (grantedDrive s { arbiterAsks s (flushOrigin r) v .drive with sec := r.sec } before) },
    arb := { A with flush := rest } }) arb

end Fits
end Fixed
end Windows

end Sys2Proof.Machine
end

section
/-! PROOFS. START (R100) by the slot it begins at, a window that skips its FLUSH request among them (R60, R132). -/

namespace Sys2Proof.Machine

section Skips
variable {s : State} {tag slot : Byte}

/-- R132, R134: the window skips its one request, whose next decision closes it. -/
theorem start_window_skips {v : State} (h : Ready s) (hst : s.seq.state = .idle ∨ s.seq.state = .halted)
    (hx : (s.slot slot.toNat).kind = .window)
    (hd : makeDecision (atWindow s tag slot)
      = v.inWindow (begunAt s.seq slot.toNat) (windowOpened (begunAt s.seq slot.toNat) (s.slot slot.toNat)) true)
    (hq : NothingQueued v) (hg : (v.slot (nextSlot slot.toNat)).kind = .gap) :
    exec (.start tag slot) s = .next { v with
      seq := { gapReached (begunAt s.seq slot.toNat) (nextSlot slot.toNat) (v.slot (nextSlot slot.toNat)).time with
        resume := none },
      arb := { windowShut v.arb with due := false }, lu := sendIfFree v.lu } := by
  obtain ⟨isOpen, running, free⟩ := windowOpened_fresh (begunAt s.seq slot.toNat) (s.slot slot.toNat)
  have closing := makeDecision_closes (s := v.inWindow (begunAt s.seq slot.toNat)
    (windowOpened (begunAt s.seq slot.toNat) (s.slot slot.toNat)) true) isOpen running free hq (.inr nofun)
  have decided := Leads.one (settleOnce_due (s := v.inWindow (begunAt s.seq slot.toNat)
    (windowOpened (begunAt s.seq slot.toNat) (s.slot slot.toNat)) true) rfl)
  rw [closing] at decided
  have shut := closeWindow_inWindow (v := v) (q := begunAt s.seq slot.toNat)
    (w := windowOpened (begunAt s.seq slot.toNat) (s.slot slot.toNat)) rfl hg
  have leads := decided.trans shut
  rw [← hd] at leads
  rw [start_window h hst hx leads (by decide) ⟨rfl, rfl⟩]
  rfl

/-- R60, R132: the FLUSH request at the head of the one filled queue does not pass. -/
theorem start_window_blocked {r : FlushRequest} (h : Ready s) (hst : s.seq.state = .idle ∨ s.seq.state = .halted)
    (hx : (s.slot slot.toNat).kind = .window) (h0 : (s.slot slot.toNat).time ≠ 0) (hu : s.arb.flush = [r])
    (hf : s.arb.frost = []) (hp : s.arb.pass = []) (hb : s.arb.probe = [])
    (hfits : budgetOf s 5 ≤ 100 * (s.slot slot.toNat).time.toNat) (hpass : ¬ FlushPasses s r)
    (hg : (s.slot (nextSlot slot.toNat)).kind = .gap) (hr : RoomForReports s 1) :
    let level : Level := if r.kind = .pulseStart ∧ r.mandatory = true then .urgent else s.cfg.linkSet.flushLevel
    exec (.start tag slot) s = .next { s with
      seq := gapReached (begunAt s.seq slot.toNat) (nextSlot slot.toNat) (s.slot (nextSlot slot.toNat)).time,
      sections := if SkipReports s r then s.sections.setIfInBounds r.sec { s.sec r.sec with blocked := true }
        else s.sections,
      arb := windowShut { pointersMoved .flush level s.arb with flush := [] },
      eu := if SkipReports s r then unitAfter s .flushBlocked else s.eu,
      lu := (replied { frameTaken s with
        reports := if SkipReports s r then reportsWith s [eventNow s .flushBlocked (.sec r.sec) 0] else s.lu.reports }
        kindCommand tag .ok [1]) } := by
  intro level
  obtain ⟨hresume, hdue⟩ := h.2.2.2
  obtain ⟨isOpen, running, free⟩ := windowOpened_fresh (begunAt s.seq slot.toNat) (s.slot slot.toNat)
  let v : State := { s with
    sections := if SkipReports s r then s.sections.setIfInBounds r.sec { s.sec r.sec with blocked := true }
      else s.sections,
    arb := { pointersMoved .flush level s.arb with flush := [] },
    eu := if SkipReports s r then unitAfter s .flushBlocked else s.eu,
    lu := { responding s kindCommand tag .ok [1] with
      reports := if SkipReports s r then reportsWith s [eventNow s .flushBlocked (.sec r.sec) 0] else s.lu.reports } }
  have decided := makeDecision_flush (s := atWindow s tag slot) isOpen running free hu hf hp hb
    (by rw [atWindow_timeLeft h0]; exact hfits)
  rw [grantFlush_skips (s := atWindow s tag slot) _ hpass hr, pointersMoved_eq] at decided
  have skipped : makeDecision (atWindow s tag slot)
      = v.inWindow (begunAt s.seq slot.toNat) (windowOpened (begunAt s.seq slot.toNat) (s.slot slot.toNat)) true := by
    rw [decided]
    unfold v State.inWindow
    rw [pointersMoved_eq]
    rfl
  have empty : NothingQueued v := by
    unfold v NothingQueued
    rw [pointersMoved_eq]
    exact ⟨hf, rfl, hp, hb⟩
  rw [start_window_skips h hst hx skipped empty hg]
  have due : (windowShut { pointersMoved .flush level s.arb with flush := [] }).due = false :=
    (pointersMoved_due ..).trans hdue
  exact congrArg₂ (fun (m : Option Nat) (d : Bool) => Host.Outcome.next ({ v with
    seq := { gapReached (begunAt s.seq slot.toNat) (nextSlot slot.toNat) (s.slot (nextSlot slot.toNat)).time with
      resume := m },
    arb := { windowShut { pointersMoved .flush level s.arb with flush := [] } with due := d },
    lu := sendIfFree v.lu } : State)) hresume.symm due.symm

end Skips

/-- Settles O36: each kind of slot in its own lemma. -/
theorem startBySlot : Obligations.StartBySlot := by
  intro tag slot s h x begun ok haltsAt halts next target
  refine ⟨start_refused h, fun hst => ⟨start_gap h hst, start_stop h hst, start_emptyReturn h hst, start_badSlot h hst,
    fun lane hx hf hl hk ha hup => start_poll h hst hx hl ha hup hf hk, start_note h hst,
    fun hk => ⟨start_jump h hst hk, start_runaway h hst hk⟩,
    fun hk => ⟨start_call h hst hk, start_call_return h hst hk, start_nestedCall h hst hk⟩,
    start_window_empty h hst, fun hx h0 hup => ?_⟩⟩
  intro opens fits
  obtain ⟨isOpen, running, free⟩ := windowOpened_fresh begun x
  refine ⟨fun a rest hf hu hp hb => ⟨start_window_frost h hst hx h0 hp hf hu hb hup, fun hover hg => ?_⟩,
    fun r rest hu hf hp hb hfits => ⟨start_window_flush h hst hx h0 hp hu hf hb hup hfits, ?_⟩,
    fun p rest hb hf hu hp hfits => ⟨?_, ?_⟩⟩
  · have tooLong : ¬ budget (atWindow s tag slot) .frost ≤ timeLeft (atWindow s tag slot) := by
      rw [atWindow_timeLeft h0]
      exact hover
    exact start_window_closes h hst hx (makeDecision_over isOpen running free (onlySource_frost hf hu hp hb) (by decide) tooLong) hg
  · rintro hpass rfl hg hr
    exact start_window_blocked h hst hx h0 hu hf hp hb hfits hpass hg hr
  · rintro a rfl hk
    exact start_window_nodeProbe h hst hx h0 hp hb hf hu hup hfits hk
  · rintro l a rfl htarget
    have known : s.kindOf a ≠ .none := htarget.elim (·.2.2) (·.2.2.2.1)
    have positive : a ≠ 0 := htarget.elim (·.2.1) fun k => Nat.pos_iff_ne_zero.mp k.2.1
    exact start_window_laneProbe h hst hx h0 hp hb hf hu hfits known positive (probeTarget_eq htarget)

end Sys2Proof.Machine
end

section
/-! PROOFS. A request's frame is read back as the request (R159, R172, R173, R175), and a receiver that takes its octets one
by one finds it whole (R160). -/

namespace Sys2Proof.Machine

/-! ## Entries and pairs read back (R172, R175) -/

section Payloads

theorem word_wordOctets (w : Word) : word (w.extractLsb' 8 8) (w.extractLsb' 0 8) = w := by
  unfold word
  rw [BitVec.extractLsb'_append_extractLsb'_eq_extractLsb' (by rfl)]
  exact BitVec.extractLsb'_eq_self

/-- A table's entries stand in `len` octets each, which read back as the entry. -/
structure ReadsBack {ε : Type} (len : Nat) (octets : ε → List Byte) (read : List Byte → Option ε) : Prop where
  pos : 0 < len
  long : ∀ e, (octets e).length = len
  back : ∀ e, read (octets e) = some e
  empty : read [] = none

/-- R175: the payload of a TABLE_WRITE is its count of entries long, or is refused. -/
theorem readEntries_flatMap {ε : Type} {len : Nat} {octets : ε → List Byte} {read : List Byte → Option ε}
    (h : ReadsBack len octets read) (n : Nat) (es : List ε) :
    readEntries len read n (es.flatMap octets) = if n = es.length then some es else none := by
  induction n generalizing es with
  | zero =>
    cases es with
    | nil => rfl
    | cons e es =>
      rw [List.flatMap_cons, if_neg (by rw [List.length_cons]; omega)]
      cases ho : octets e with
      | nil => exact absurd (h.long e) (by rw [ho]; exact h.pos.ne)
      | cons x xs => rfl
  | succ n ih =>
    cases es with
    | nil =>
      unfold readEntries
      rw [List.flatMap_nil, List.take_nil, h.empty]
      rfl
    | cons e es =>
      unfold readEntries
      rw [List.flatMap_cons, List.take_left' (h.long e), List.drop_left' (h.long e), h.back, ih]
      by_cases hn : n = es.length
      · rw [if_pos hn, if_pos (by rw [List.length_cons, hn])]
      · rw [if_neg hn, if_neg (by rw [List.length_cons]; omega)]

theorem serveEntries_flatMap {ε : Type} {len : Nat} {octets : ε → List Byte} {read : List Byte → Option ε}
    (h : ReadsBack len octets read) (w : WriteRules ε) (first count : Byte) (es : List ε) (s : State) :
    serveEntries w len read first count (es.flatMap octets) s = serveWrite w first count es s := by
  unfold serveEntries
  rw [readEntries_flatMap h]
  by_cases hn : count.toNat = es.length
  · rw [if_pos hn]
  · rw [if_neg hn, serveWrite, if_pos (.inr (Ne.symm hn))]

theorem readPairs_flatMap (ps : List (Byte × Word)) : readPairs (ps.flatMap pairOctets) = some ps := by
  induction ps with
  | nil => rfl
  | cons p ps ih =>
    rw [List.flatMap_cons]
    show readPairs (p.1 :: p.2.extractLsb' 8 8 :: p.2.extractLsb' 0 8 :: ps.flatMap pairOctets) = _
    rw [readPairs, ih, word_wordOctets]

theorem readsBack_slot : ReadsBack 11 slotEntryOctets readSlot where
  pos := by decide
  long _ := rfl
  back e := by
    show some ({ e with time := word _ _ } : SlotEntry) = some e
    rw [word_wordOctets]
  empty := rfl

theorem readsBack_node : ReadsBack 12 nodeEntryOctets readNode where
  pos := by decide
  long _ := rfl
  back e := by
    show some ({ e with gain := word _ _, offset := word _ _, low := word _ _, high := word _ _ } : NodeEntry) = some e
    simp only [word_wordOctets]
  empty := rfl

theorem vector_four {α : Type} (v : Vector α 4) : v = #v[v[0], v[1], v[2], v[3]] := by
  ext i hi
  match i, hi with
  | 0, _ | 1, _ | 2, _ | 3, _ => rfl

theorem vector_two {α : Type} (v : Vector α 2) : v = #v[v[0], v[1]] := by
  ext i hi
  match i, hi with
  | 0, _ | 1, _ => rfl

theorem readsBack_section : ReadsBack 28 sectionEntryOctets readSection where
  pos := by decide
  long e := by
    obtain ⟨en, o, v, n, fans⟩ := e
    rw [vector_four fans]
    rfl
  back e := by
    obtain ⟨en, o, v, n, fans⟩ := e
    rw [vector_four fans]
    show some (SectionEntry.mk _ _ _ _ _ (word _ _) (word _ _) (word _ _) (word _ _) (word _ _) _ _ (word _ _) _ (word _ _)
      (word _ _) _) = _
    simp only [word_wordOctets]
  empty := rfl

theorem readsBack_loop : ReadsBack 26 loopEntryOctets readLoop where
  pos := by decide
  long e := by
    obtain ⟨fz, s, r, a, sf, bd, rl, sl, bl, bc, dt, n, pumps⟩ := e
    rw [vector_two pumps]
    rfl
  back e := by
    obtain ⟨fz, s, r, a, sf, bd, rl, sl, bl, bc, dt, n, pumps⟩ := e
    rw [vector_two pumps]
    show some (LoopEntry.mk (word _ _) _ _ _ (word _ _) (word _ _) (word _ _) _ _ (word _ _) (word _ _) _ _ (word _ _)
      (word _ _) (word _ _)) = _
    simp only [word_wordOctets]
  empty := rfl

theorem readsBack_word : ReadsBack 2 wordOctets readWord where
  pos := by decide
  long _ := rfl
  back w := congrArg some (word_wordOctets w)
  empty := rfl

theorem readsBack_octet : ReadsBack 1 (fun b => [b]) readOctet where
  pos := by decide
  long _ := rfl
  back _ := rfl
  empty := rfl

theorem readsBack_linkSet : ReadsBack 9 linkSetEntryOctets readLinkSet where
  pos := by decide
  long _ := rfl
  back _ := rfl
  empty := rfl

end Payloads

/-! ## Requests and their frames (R159, R162, TABLE 8-5) -/

section Requests
variable {c : Instr} {kind tag : Byte} {payload : List Byte}

/-- The frame of a request is one whose taking is what the request's row does. -/
structure Carries (c : Instr) (kind tag : Byte) (payload : List Byte) : Prop where
  short : payload.length ≤ 238
  taken : ∀ s, exec c s = .next (takeFrame kind tag payload s)

theorem serveFrame_demand (tag : Byte) (payload : List Byte) :
    serveFrame kindDemand tag payload = whileServed [0, 0] (serveDemandFrame payload) := rfl

theorem serveFrame_write (tag : Byte) (payload : List Byte) :
    serveFrame kindTableWrite tag payload = whileServed [0] (serveWriteFrame payload) := rfl

theorem serveFrame_command (tag : Byte) (payload : List Byte) :
    serveFrame kindCommand tag payload = whileServed [payloadOctet payload 0] (serveCommandFrame payload) := rfl

theorem serveFrame_pass (tag : Byte) (payload : List Byte) :
    serveFrame kindPass tag payload = whileServed [] (servePassFrame tag payload) := rfl

/-- A request row is the taking of a frame that is served as its row is. -/
theorem carries_of_served {idle : List Byte} {body : State → Served} (hl : payload.length ≤ 238)
    (hc : ∀ s, exec c s = .next (request kind tag idle body s))
    (hs : serveFrame kind tag payload = whileServed idle body) : Carries c kind tag payload where
  short := hl
  taken s := by
    rw [hc, takeFrame, hs]
    rfl

theorem flatMap_length {ε : Type} {len : Nat} {octets : ε → List Byte} (h : ∀ e, (octets e).length = len) (es : List ε) :
    (es.flatMap octets).length = es.length * len := by
  rw [List.length_flatMap, List.map_congr_left fun e _ => h e, List.map_const', List.sum_replicate, smul_eq_mul]

/-- A TABLE_WRITE row and its frame. -/
theorem carries_write {ε : Type} {id first count : Byte} {len : Nat} {octets : ε → List Byte}
    {read : List Byte → Option ε} {es : List ε} (w : WriteRules ε) (h : ReadsBack len octets read)
    (hw : writeFits len es.length = true) (hc : ∀ s, exec c s = .next (request kindTableWrite tag [0]
      (serveWrite w first count es) s))
    (hs : ∀ rest, serveWriteFrame (id :: first :: count :: rest) = serveEntries w len read first count rest) :
    Carries c kindTableWrite tag (id :: first :: count :: es.flatMap octets) := by
  refine carries_of_served ?_ hc ?_
  · have total : (es.flatMap octets).length = es.length * len := flatMap_length h.long es
    have fits : 3 + es.length * len ≤ 238 := of_decide_eq_true hw
    simp only [List.length_cons, total]
    omega
  · rw [serveFrame_write, hs]
    exact congrArg _ (funext fun s => serveEntries_flatMap h w first count es s)

/-- R159, R173, R175, R179: a request's row is the taking of its frame. -/
theorem requestFrame_carries {octets : List Byte} (hw : c.wf = true) (hf : requestFrame c = some octets) :
    ∃ kind tag payload, octets = linkFrame kind tag payload ∧ Carries c kind tag payload := by
  have command {t code : Byte} {param : List Byte} {body : State → Served} {d : Instr}
      (hl : (code :: param).length ≤ 238)
      (hd : ∀ s, exec d s = .next (request kindCommand t [code] body s))
      (hs : serveCommand code param = body) : Carries d kindCommand t (code :: param) :=
    carries_of_served hl hd (by rw [serveFrame_command, ← hs]; rfl)
  cases c with
  | demand tag pairs =>
    cases hf
    have total : (pairs.flatMap pairOctets).length = 3 * pairs.length :=
      (flatMap_length (octets := pairOctets) (len := 3) (fun _ => rfl) pairs).trans (Nat.mul_comm ..)
    refine ⟨_, _, _, rfl, carries_of_served (total ▸ of_decide_eq_true hw) (fun s => rfl) ?_⟩
    rw [serveFrame_demand]
    exact congrArg _ (funext fun s => by rw [serveDemandFrame, readPairs_flatMap])
  | tableWriteCycle tag first count es =>
    cases hf
    exact ⟨_, _, _, rfl, carries_write cycleRules readsBack_slot hw (fun s => rfl) fun _ => rfl⟩
  | tableWriteNode tag first count es =>
    cases hf
    exact ⟨_, _, _, rfl, carries_write nodeRules readsBack_node hw (fun s => rfl) fun _ => rfl⟩
  | tableWriteSection tag first count es =>
    cases hf
    exact ⟨_, _, _, rfl, carries_write sectionRules readsBack_section hw (fun s => rfl) fun _ => rfl⟩
  | tableWriteLoop tag first count es =>
    cases hf
    exact ⟨_, _, _, rfl, carries_write loopRules readsBack_loop hw (fun s => rfl) fun _ => rfl⟩
  | tableWriteDemand tag first count es =>
    cases hf
    exact ⟨_, _, _, rfl, carries_write demandRules readsBack_word hw (fun s => rfl) fun _ => rfl⟩
  | tableWriteHold tag first count es =>
    cases hf
    exact ⟨_, _, _, rfl, carries_write holdRules readsBack_word hw (fun s => rfl) fun _ => rfl⟩
  | tableWriteAlarmMap tag first count es =>
    cases hf
    exact ⟨_, _, _, rfl, carries_write alarmRules readsBack_octet hw (fun s => rfl) fun _ => rfl⟩
  | tableWriteLinkSet tag first count es =>
    cases hf
    exact ⟨_, _, _, rfl, carries_write linkSetRules readsBack_linkSet hw (fun s => rfl) fun _ => rfl⟩
  | tableRead tag table first count =>
    cases hf
    exact ⟨_, _, _, rfl, carries_of_served (Nat.le_of_ble_eq_true rfl) (fun s => rfl) rfl⟩
  | pass tag node operation parameter value =>
    cases hf
    refine ⟨_, _, _, rfl, carries_of_served (Nat.le_of_ble_eq_true rfl) (fun s => rfl) ?_⟩
    rw [serveFrame_pass]
    exact congrArg _ (funext fun s => congrArg (fun w => servePass tag node operation parameter w s) (word_wordOctets value))
  | ack tag classes =>
    cases hf
    refine ⟨_, _, _, rfl, command (Nat.le_of_ble_eq_true rfl) (fun s => rfl) ?_⟩
    exact congrArg serveAck (word_wordOctets classes)
  | start tag slot => cases hf; exact ⟨_, _, _, rfl, command (Nat.le_of_ble_eq_true rfl) (fun s => rfl) rfl⟩
  | stop tag => cases hf; exact ⟨_, _, _, rfl, command (Nat.le_of_ble_eq_true rfl) (fun s => rfl) rfl⟩
  | reports tag stream => cases hf; exact ⟨_, _, _, rfl, command (Nat.le_of_ble_eq_true rfl) (fun s => rfl) rfl⟩
  | resume tag => cases hf; exact ⟨_, _, _, rfl, command (Nat.le_of_ble_eq_true rfl) (fun s => rfl) rfl⟩
  | hold tag => cases hf; exact ⟨_, _, _, rfl, command (Nat.le_of_ble_eq_true rfl) (fun s => rfl) rfl⟩
  | reviveNode tag node => cases hf; exact ⟨_, _, _, rfl, command (Nat.le_of_ble_eq_true rfl) (fun s => rfl) rfl⟩
  | reviveLane tag lane => cases hf; exact ⟨_, _, _, rfl, command (Nat.le_of_ble_eq_true rfl) (fun s => rfl) rfl⟩
  | flush tag sec => cases hf; exact ⟨_, _, _, rfl, command (Nat.le_of_ble_eq_true rfl) (fun s => rfl) rfl⟩
  | resetField tag => cases hf; exact ⟨_, _, _, rfl, command (Nat.le_of_ble_eq_true rfl) (fun s => rfl) rfl⟩
  | resetLink tag => cases hf; exact ⟨_, _, _, rfl, command (Nat.le_of_ble_eq_true rfl) (fun s => rfl) rfl⟩
  | resetFull tag => cases hf; exact ⟨_, _, _, rfl, command (Nat.le_of_ble_eq_true rfl) (fun s => rfl) rfl⟩
  | save tag => cases hf; exact ⟨_, _, _, rfl, command (Nat.le_of_ble_eq_true rfl) (fun s => rfl) rfl⟩
  | clear tag => cases hf; exact ⟨_, _, _, rfl, command (Nat.le_of_ble_eq_true rfl) (fun s => rfl) rfl⟩
  | powerOnReset | startupReadEnd | plantTimeTick | receiverOctet | gapTimerExpiry | idleTimeEnd | commandFrameSent
  | responseTimerExpiry | replyOctet | replyGapExpiry | replyWindowExpiry | waitTimerExpiry | laneProbeCountdownEnd
  | nodeProbeCountdownEnd | minorCycleTimerZero | intervalTimerExpiry | flushTimerExpiry | storeWriteEnd | linkTimerExpiry
  | fillTimerExpiry | transmitFrameEnd => nomatch hf

end Requests

end Sys2Proof.Machine
end

section
/-! PROOFS. A receiver that takes octets one by one (R160): noise, a frame that is begun, and a frame found whole. -/

namespace Sys2Proof.Machine

/-! ## Octets that complete nothing (R160) -/

section Goes

/-- The receiver takes the octets in order, and none of them completes or breaks a frame. -/
inductive Goes : Receiver → List Byte → Receiver → Prop
  | nil (rx : Receiver) : Goes rx [] rx
  | cons {rx rx' rx'' : Receiver} {b : Byte} {bs : List Byte} (h : takeOctet rx b = .goOn rx') (hs : Goes rx' bs rx'') :
    Goes rx (b :: bs) rx''

variable {rx rx' rx'' : Receiver} {b : Byte} {bs cs : List Byte} {s : State}

theorem Goes.one (h : takeOctet rx b = .goOn rx') : Goes rx [b] rx' := .cons h (.nil _)

theorem setRx_self (h : s.lu.rx = rx) : setRx rx s = s := by
  rw [← h]
  rfl

/-- R160: octets that complete nothing leave the receiver alone changed. -/
theorem feed_goes {closing : Bool} {fuel : Nat} (h : Goes rx bs rx') (hs : s.lu.rx = rx) (rest : List Byte) :
    feed closing (fuel + bs.length) (bs ++ rest) s = feed closing fuel rest (setRx rx' s) := by
  induction h generalizing s with
  | nil rx => rw [setRx_self hs]; rfl
  | @cons rx rx₁ rx₂ b bs h _ ih =>
    have taken : takeOctet s.lu.rx b = .goOn rx₁ := by rw [hs, h]
    rw [List.length_cons, ← Nat.add_assoc, List.cons_append, feed, taken]
    exact ih rfl

/-- What the octets one by one do, as commands. -/
def heard (octets : List Byte) (o : Host.Outcome State Fault Refusal) : Host.Outcome State Fault Refusal :=
  octets.foldl (fun o b => match o with
    | .next t => exec (.receiverOctet b false) t
    | .fault f => .fault f
    | .refused r => .refused r) o

theorem heard_goes (h : Goes rx bs rx') (hs : s.lu.rx = rx) : heard bs (.next s) = .next (setRx rx' s) := by
  induction h generalizing s with
  | nil rx => rw [setRx_self hs]; rfl
  | @cons rx rx₁ rx₂ b bs h _ ih =>
    have taken : takeOctet s.lu.rx b = .goOn rx₁ := by rw [hs, h]
    have head : exec (.receiverOctet b false) s = .next (setRx rx₁ s) := by rw [exec_octet, receive_goOn taken]
    show heard bs (exec (.receiverOctet b false) s) = _
    rw [head]
    exact ih rfl

/-! ## Noise -/

/-- No octet of these can begin a frame. -/
abbrev Noise (octets : List Byte) : Prop := ∀ x ∈ octets, x ≠ 0xD3

theorem goes_noise (h : Noise bs) : Goes .hunting bs .hunting := by
  induction bs with
  | nil => exact .nil _
  | cons b bs ih =>
    have dropped : takeOctet .hunting b = .goOn .hunting := by
      unfold takeOctet
      dsimp only [Receiver.hunting]
      rw [if_neg (h b List.mem_cons_self)]
    exact .cons dropped (ih fun x hx => h x (List.mem_cons_of_mem b hx))

/-! ## A frame that is begun -/

theorem goes_body {held : List Byte} {len : Byte} {rest more : List Byte} (hh : held = 0xD3 :: 0x4B :: len :: rest)
    (hl : (rest ++ more).length < len.toNat + 2) :
    Goes (holding .body held) more (holding .body (held ++ more)) := by
  induction more generalizing held rest with
  | nil => rw [List.append_nil]; exact .nil _
  | cons b more ih =>
    have short : rest.length + (more.length + 1) < len.toNat + 2 := by simpa using hl
    have head : takeOctet (holding .body held) b = .goOn (holding .body (held ++ [b])) := by
      unfold takeOctet
      dsimp only [holding]
      rw [hh]
      simp only [List.cons_append, takeBody, List.length_append, List.length_singleton]
      rw [if_neg (by omega)]
      rfl
    refine .cons head ?_
    rw [List.append_cons held b more]
    refine ih (held := held ++ [b]) (rest := rest ++ [b]) (by rw [hh]; rfl) ?_
    simp only [List.length_append, List.length_singleton]
    omega

/-- R160: a receiver in HUNT takes the octets of a frame that has begun. -/
theorem goes_begun {hunt : Receiver} (hh : hunt.state = .hunt) (h : rx.sound) (hn : rx.state ≠ .hunt) (hg : rx.gap = 5000) :
    Goes hunt rx.held rx := by
  have first : takeOctet hunt 0xD3 = .goOn (holding .header [0xD3]) := by
    unfold takeOctet
    rw [hh]
    rfl
  have second : takeOctet (holding .header [0xD3]) 0x4B = .goOn (holding .header [0xD3, 0x4B]) := rfl
  obtain ⟨st, held, gap⟩ := rx
  obtain rfl : gap = 5000 := hg
  unfold Receiver.sound at h
  cases st with
  | hunt => exact absurd rfl hn
  | header =>
    rcases h with h | h
    · obtain rfl : held = [0xD3] := h
      exact .one first
    · obtain rfl : held = [0xD3, 0x4B] := h
      exact .cons first (.one second)
  | body =>
    obtain ⟨len, rest, h, h2, h240, hl⟩ := h
    obtain rfl : held = 0xD3 :: 0x4B :: len :: rest := h
    have third : takeOctet (holding .header [0xD3, 0x4B]) len = .goOn (holding .body [0xD3, 0x4B, len]) := by
      show (if lenOk len = true then RxEvent.goOn (holding .body [0xD3, 0x4B, len]) else _) = _
      rw [if_pos (lenOk_iff.mpr ⟨h2, h240⟩)]
    exact .cons first (.cons second (.cons third (goes_body (held := [0xD3, 0x4B, len]) (rest := []) rfl hl)))

/-! ## A frame that is whole -/

section Whole
variable {kind tag : Byte} {payload : List Byte}

/-- R159: all octets of a frame but the last. -/
def frameBegun (kind tag : Byte) (payload : List Byte) : Receiver :=
  holding .body (0xD3 :: 0x4B :: natOctet (payload.length + 2) :: kind :: tag :: payload
    ++ [(crc16 (natOctet (payload.length + 2) :: kind :: tag :: payload)).extractLsb' 8 8])

/-- R159: the last octet of a frame. -/
def frameLast (kind tag : Byte) (payload : List Byte) : Byte :=
  (crc16 (natOctet (payload.length + 2) :: kind :: tag :: payload)).extractLsb' 0 8

theorem linkFrame_eq : linkFrame kind tag payload = (frameBegun kind tag payload).held ++ [frameLast kind tag payload] := by
  simp [linkFrame, frameBegun, frameLast, holding, wordOctets]

theorem natOctet_len (h : payload.length ≤ 238) : (natOctet (payload.length + 2)).toNat = payload.length + 2 := by
  rw [natOctet, BitVec.toNat_ofNat]
  omega

theorem goes_frameBegun {hunt : Receiver} (hh : hunt.state = .hunt) (h : payload.length ≤ 238) :
    Goes hunt (frameBegun kind tag payload).held (frameBegun kind tag payload) := by
  have len := natOctet_len h
  refine goes_begun hh ⟨natOctet (payload.length + 2), kind :: tag :: payload
    ++ [(crc16 (natOctet (payload.length + 2) :: kind :: tag :: payload)).extractLsb' 8 8], rfl, ?_⟩ nofun rfl
  simp only [List.length_append, List.length_cons, List.length_nil]
  omega

theorem judgeFrame_linkFrame (kind tag : Byte) (payload : List Byte) :
    judgeFrame (linkFrame kind tag payload) = .frame kind tag payload := by
  let body := natOctet (payload.length + 2) :: kind :: tag :: payload
  have held : (linkFrame kind tag payload).drop 2 = body ++ wordOctets (crc16 body) := rfl
  have inner : ((linkFrame kind tag payload).drop 2).dropLast.dropLast = body := by
    rw [held]
    show (body ++ ([_] ++ [_])).dropLast.dropLast = body
    rw [← List.append_assoc, List.dropLast_concat, List.dropLast_concat]
  have tail : (linkFrame kind tag payload).drop (2 + body.length) = wordOctets (crc16 body) := by
    rw [← List.drop_drop, held, List.drop_left]
  unfold judgeFrame
  dsimp only
  rw [inner, tail]
  exact if_pos (word_wordOctets (crc16 body)).symm

/-- R160: the last octet makes the frame whole. -/
theorem takeOctet_last (h : payload.length ≤ 238) :
    takeOctet (frameBegun kind tag payload) (frameLast kind tag payload) = .frame kind tag payload := by
  have whole : takeOctet (frameBegun kind tag payload) (frameLast kind tag payload)
      = takeBody (linkFrame kind tag payload) := by
    rw [linkFrame_eq]
    rfl
  have long : (natOctet (payload.length + 2)).toNat + 2
      ≤ (kind :: tag :: payload ++ wordOctets (crc16 (natOctet (payload.length + 2) :: kind :: tag :: payload))).length := by
    rw [natOctet_len h, List.length_append, wordOctets_length]
    simp only [List.length_cons]
    omega
  have judged := judgeFrame_linkFrame kind tag payload
  rw [whole]
  exact (if_pos long).trans judged

end Whole
end Goes

end Sys2Proof.Machine
end

section
/-! PROOFS. The octets of a frame run its request (R160 to R162), and frames that are abandoned (R161). -/

namespace Sys2Proof.Machine

section Hears
variable {s : State} {kind tag : Byte} {payload : List Byte}

theorem linkTaken_setRx (rx : Receiver) (s : State) : linkTaken (setRx rx s) = linkTaken s := rfl

/-- R160: what a frame does once it is whole does not depend on the octets held. -/
theorem takeFrame_setRx (rx : Receiver) (s : State) : takeFrame kind tag payload (setRx rx s) = takeFrame kind tag payload s := by
  unfold takeFrame takeValid
  rw [linkTaken_setRx]

/-- R160: the last octet of a frame takes it. -/
theorem feed_last (hl : payload.length ≤ 238) (hs : s.lu.rx = frameBegun kind tag payload) (closing : Bool) (fuel : Nat)
    (rest : List Byte) : feed closing (fuel + 1) (frameLast kind tag payload :: rest) s =
      if (takeFrame kind tag payload s).Starting ∧ ¬ s.Starting then takeFrame kind tag payload s
      else feed closing fuel rest (takeFrame kind tag payload s) := by
  have whole : takeOctet s.lu.rx (frameLast kind tag payload) = .frame kind tag payload := by rw [hs, takeOctet_last hl]
  rw [feed, whole]

theorem receive_last (hl : payload.length ≤ 238) (hs : s.lu.rx = frameBegun kind tag payload) :
    receive (frameLast kind tag payload) s = takeFrame kind tag payload s := by
  obtain ⟨m, hm⟩ := feedBound_pos (s.lu.rx.held.length + 1)
  unfold receive
  rw [hm, feed_last hl hs, feed_open_nil, ite_self]

theorem heard_frame (hh : s.lu.rx.state = .hunt) (hl : payload.length ≤ 238) :
    heard (linkFrame kind tag payload) (.next s) = .next (takeFrame kind tag payload s) := by
  have begun := heard_goes (goes_frameBegun (kind := kind) (tag := tag) hh hl) rfl
  have last : heard [frameLast kind tag payload] (.next (setRx (frameBegun kind tag payload) s))
      = .next (receive (frameLast kind tag payload) (setRx (frameBegun kind tag payload) s)) := rfl
  have split : heard (linkFrame kind tag payload) (.next s)
      = heard [frameLast kind tag payload] (heard (frameBegun kind tag payload).held (.next s)) := by
    rw [linkFrame_eq]
    exact List.foldl_append
  rw [split, begun, last, receive_last hl rfl, takeFrame_setRx]

end Hears

/-- Settles O9: the frame is read back as the request, and its octets one by one make it whole. -/
theorem frameOctetsRunTheRequest : Obligations.FrameOctetsRunTheRequest := by
  intro c octets s hw hf hh
  obtain ⟨kind, tag, payload, rfl, carries⟩ := requestFrame_carries hw hf
  rw [carries.taken]
  exact (heard_frame hh carries.short).symm

/-! ## Frames that are abandoned (R161) -/

section Rescans
variable {s : State} {closing : Bool} {octets : List Byte}

/-- R161: with nothing held and no octet left a rescan ends. -/
theorem feed_nil_empty (fuel : Nat) (h : s.lu.rx.held = []) : feed closing fuel [] s = s := by
  cases fuel with
  | zero => rfl
  | succ n =>
    cases closing with
    | true => simp only [feed, h]
    | false => simp only [feed]

theorem feedBound_ge (n : Nat) : n ≤ feedBound n := by
  unfold feedBound
  nlinarith

/-- R161: octets none of which begins a frame leave the receiver in HUNT. -/
theorem feed_noise {fuel : Nat} (h : Noise octets) (hs : s.lu.rx = .hunting) (hf : octets.length ≤ fuel) (rest : List Byte) :
    feed closing fuel (octets ++ rest) s = feed closing (fuel - octets.length) rest s := by
  have goes := feed_goes (closing := closing) (fuel := fuel - octets.length) (goes_noise h) hs rest
  rw [Nat.sub_add_cancel hf, setRx_self hs] at goes
  exact goes

theorem feed_noise_end {fuel : Nat} (h : Noise octets) (hs : s.lu.rx = .hunting) (hf : octets.length ≤ fuel) :
    feed closing fuel octets s = s := by
  have goes := feed_noise (closing := closing) h hs hf []
  rw [List.append_nil] at goes
  rw [goes, feed_nil_empty _ (by rw [hs]; rfl)]

/-- R160: a frame that is whole among the octets is taken then and there. -/
theorem feed_frame {fuel : Nat} {kind tag : Byte} {payload : List Byte} (hl : payload.length ≤ 238) (hs : s.lu.rx = .hunting)
    (hf : (linkFrame kind tag payload).length ≤ fuel) (hh : (takeFrame kind tag payload s).lu.rx.held = []) :
    feed closing fuel (linkFrame kind tag payload) s = takeFrame kind tag payload s := by
  rw [linkFrame_eq, List.length_append, List.length_singleton] at hf
  obtain ⟨m, rfl⟩ := Nat.exists_eq_add_of_le hf
  have begun := feed_goes (closing := closing) (fuel := m + 1)
    (goes_frameBegun (kind := kind) (tag := tag) (by rw [hs]; rfl) hl) rfl [frameLast kind tag payload]
  rw [linkFrame_eq, show (frameBegun kind tag payload).held.length + 1 + m
    = m + 1 + (frameBegun kind tag payload).held.length by omega, begun, feed_last hl rfl, takeFrame_setRx,
    feed_nil_empty m hh, ite_self]

end Rescans

/-! ## A rescan ends in HUNT (R161) -/

section Ends
variable {s t : State}

/-- Every update of a command. -/
def everything : Allow where
  walk := True
  window := True
  load _ := True
  written _ := True
  tick := True
  reset := True

/-- No update but an octet takes the receiver out of HUNT. -/
theorem Act.hunting {al : Allow} {O O' : Set Nat} (h : Act al (O, s) (O', t)) (hs : s.lu.rx = .hunting) :
    t.lu.rx = .hunting := by
  cases h with
  | postFrost a _ => obtain ⟨x, hx⟩ := postFrost_eq a s; exact hx ▸ hs
  | postFlush r _ => obtain ⟨x, hx⟩ := postFlush_eq r s; exact hx ▸ hs
  | postPass r => obtain ⟨x, hx⟩ := postPass_eq r s; exact hx ▸ hs
  | postProbe t _ => obtain ⟨x, hx⟩ := postProbe_eq t s; exact hx ▸ hs
  | link u hu => exact hu.rx.elim (fun h => h.trans hs) id
  | powerOn pin _ => rfl
  | _ => exact hs

theorem Acts.hunting (h : Acts everything s t) (hs : s.lu.rx = .hunting) : t.lu.rx = .hunting :=
  reach_keeps (P := fun u => u.lu.rx = .hunting) (fun a hu => a.hunting hu) (h.reach ∅) hs

theorem linkTaken_hunting (s : State) : (linkTaken s).lu.rx = .hunting := by
  unfold linkTaken
  dsimp only
  split
  · exact (acts_inform _ _ _ _).hunting rfl
  · rfl

/-- R160: a frame that is taken leaves the receiver in HUNT with nothing held. -/
theorem takeFrame_hunting (kind tag : Byte) (payload : List Byte) (s : State) :
    (takeFrame kind tag payload s).lu.rx = .hunting := by
  have taken : (takeValid kind tag (serveFrame kind tag payload) s).lu.rx = .hunting := by
    unfold takeValid
    dsimp only
    split
    · exact linkTaken_hunting s
    · have served := (serves_frame (al := everything) trivial (kind := kind) tag (payload := payload) (fun _ _ => trivial)
        (linkTaken s)).hunting (linkTaken_hunting s)
      generalize serveFrame kind tag payload (linkTaken s) = r at served
      obtain ⟨u, a⟩ := r
      cases a with
      | none => exact served
      | some a => exact served
  exact (acts_finish (al := everything) trivial _).hunting taken

theorem judgeFrame_error {held held' : List Byte} (h : judgeFrame held = .crcError held') : held' = held := by
  unfold judgeFrame at h
  dsimp only at h
  split at h
  · split at h
    · cases h
    · exact (RxEvent.crcError.inj h).symm
  · exact (RxEvent.crcError.inj h).symm

theorem judgeFrame_ne (held : List Byte) : (∀ rx, judgeFrame held ≠ .goOn rx) ∧ ∀ h, judgeFrame held ≠ .lenError h := by
  unfold judgeFrame
  dsimp only
  split
  · split <;> exact ⟨nofun, nofun⟩
  · exact ⟨nofun, nofun⟩

/-- A receiver that holds nothing hunts. -/
def EmptyHunts (rx : Receiver) : Prop := rx.held = [] → rx = .hunting

/-- R160: what the octet `b` leaves held: the last of the octets held, or all of them where a frame is broken. -/
def HeldAfter (rx : Receiver) (b : Byte) : RxEvent → Prop
  | .goOn rx' => EmptyHunts rx' ∧ rx'.held <:+ rx.held ++ [b]
  | .lenError held | .crcError held => held = rx.held ++ [b]
  | .frame .. => True

theorem takeOctet_held (rx : Receiver) (b : Byte) : HeldAfter rx b (takeOctet rx b) := by
  have held (st : RxState) : HeldAfter rx b (.goOn (holding st (rx.held ++ [b]))) :=
    ⟨fun h => absurd h (by simp [holding]), List.suffix_rfl⟩
  have again : HeldAfter rx b (.goOn (holding .header [b])) := ⟨nofun, List.suffix_append _ _⟩
  have hunts : HeldAfter rx b (.goOn .hunting) := ⟨fun _ => rfl, List.nil_suffix⟩
  unfold takeOctet
  split
  · split
    · exact again
    · exact hunts
  · split
    · split
      · exact held _
      split
      · exact again
      · exact hunts
    · split
      · exact held _
      · rfl
  · unfold takeBody
    split
    · next h =>
      split
      · cases hj : judgeFrame (rx.held ++ [b]) with
        | goOn rx' => exact absurd hj ((judgeFrame_ne _).1 rx')
        | lenError h => exact absurd hj ((judgeFrame_ne _).2 h)
        | crcError h => exact judgeFrame_error hj
        | frame => trivial
      · exact held _
    · exact held _

section Events
variable {rx rx' : Receiver} {b : Byte} {held : List Byte}

theorem takeOctet_goOn (h : takeOctet rx b = .goOn rx') : EmptyHunts rx' ∧ rx'.held <:+ rx.held ++ [b] := by
  have after := takeOctet_held rx b
  rw [h] at after
  exact after

theorem takeOctet_lenError (h : takeOctet rx b = .lenError held) : held = rx.held ++ [b] := by
  have after := takeOctet_held rx b
  rw [h] at after
  exact after

theorem takeOctet_crcError (h : takeOctet rx b = .crcError held) : held = rx.held ++ [b] := by
  have after := takeOctet_held rx b
  rw [h] at after
  exact after

end Events

/-- R161: a closing rescan with moves enough ends in HUNT with nothing held. -/
theorem feed_closing_ends {n fuel : Nat} {octets : List Byte} (hq : EmptyHunts s.lu.rx)
    (hn : s.lu.rx.held.length + octets.length ≤ n) (hf : n * (n + 1) + octets.length + 1 ≤ fuel) :
    (feed true fuel octets s).lu.rx = .hunting := by
  have fewer (m : Nat) : (m + 1) * (m + 1 + 1) = m * (m + 1) + 2 * (m + 1) := by ring
  induction fuel generalizing n octets s with
  | zero => omega
  | succ fuel ih =>
    cases octets with
    | nil =>
      cases hh : s.lu.rx.held with
      | nil => rw [feed_nil_empty _ hh, hq hh]
      | cons x later =>
        simp only [feed, hh]
        rw [hh] at hn
        simp only [List.length_cons, List.length_nil] at hn hf
        obtain ⟨m, rfl⟩ : ∃ m, n = m + 1 := ⟨n - 1, by omega⟩
        have := fewer m
        exact ih (n := m) (fun _ => rfl) (by show 0 + later.length ≤ m; omega) (by omega)
    | cons b rest =>
      rw [List.length_cons] at hn hf
      have again (held : List Byte) (hh : held = s.lu.rx.held ++ [b]) {u : State} (hu : u.lu.rx = .hunting) :
          (feed true fuel (held.drop 1 ++ rest) u).lu.rx = .hunting := by
        have long : held.length = s.lu.rx.held.length + 1 := by rw [hh, List.length_append, List.length_singleton]
        obtain ⟨m, rfl⟩ : ∃ m, n = m + 1 := ⟨n - 1, by omega⟩
        have := fewer m
        have count : (held.drop 1 ++ rest).length ≤ m := by
          rw [List.length_append, List.length_drop]
          omega
        exact ih (n := m) (fun _ => hu) (by rw [hu]; show 0 + _ ≤ m; omega) (by omega)
      unfold feed
      split
      · next rx ho =>
        obtain ⟨hunts, suffix⟩ := takeOctet_goOn ho
        have long := suffix.length_le
        rw [List.length_append, List.length_singleton] at long
        exact ih (n := n) hunts (by show rx.held.length + rest.length ≤ n; omega) (by omega)
      · next held ho => exact again held (takeOctet_lenError ho) rfl
      · next held ho => exact again held (takeOctet_crcError ho) rfl
      · next kind tag payload ho =>
        dsimp only
        have hunts := takeFrame_hunting kind tag payload s
        split
        · exact hunts
        · exact ih (n := n) (fun _ => hunts) (by rw [hunts]; show 0 + rest.length ≤ n; omega) (by omega)

theorem abandonAndRescan_ends (e : RxError) (s : State) : (abandonAndRescan e s).lu.rx = .hunting := by
  refine feed_closing_ends (n := s.lu.rx.held.length - 1) (fun _ => rfl) ?_ ?_
  · show 0 + (s.lu.rx.held.drop 1).length ≤ _
    rw [List.length_drop]
    omega
  · rw [List.length_drop]
    unfold feedBound
    generalize hn : s.lu.rx.held.length = n
    cases n with
    | zero => decide
    | succ m =>
      have : (m + 1 + 1) * (m + 1 + 1) = m * (m + 1) + 3 * m + 4 := by ring
      rw [Nat.add_sub_cancel]
      omega

end Ends

end Sys2Proof.Machine
end

section
/-! PROOFS. What an abandoned frame brings (R161): its counter, and what is found among the octets held behind its first
START octet. -/

namespace Sys2Proof.Machine

section Abandons
variable {s : State} {noise : List Byte} {e : RxError}

theorem feedBound_room (n : Nat) : 3 * n + 1 ≤ feedBound n + n := by
  unfold feedBound
  nlinarith

/-- R161: where none of the octets held can begin a frame, the frame is abandoned and no more. -/
theorem abandonAndRescan_noise (h : Noise (s.lu.rx.held.drop 1)) : abandonAndRescan e s = abandonFrame e s := by
  refine feed_noise_end h rfl ?_
  have := feedBound_ge s.lu.rx.held.length
  rw [List.length_drop]
  omega

/-- R161: a frame found whole among the octets held is taken. -/
theorem abandonAndRescan_frame {kind tag : Byte} {payload : List Byte} (hn : Noise noise) (hl : payload.length ≤ 238)
    (hh : s.lu.rx.held.drop 1 = noise ++ linkFrame kind tag payload) :
    abandonAndRescan e s = takeFrame kind tag payload (abandonFrame e s) := by
  have room := feedBound_ge s.lu.rx.held.length
  have long := congrArg List.length hh
  rw [List.length_drop, List.length_append] at long
  unfold abandonAndRescan
  rw [hh, feed_noise hn rfl (by omega), feed_frame hl rfl (by omega) (by rw [takeFrame_hunting]; rfl)]

/-- R161: a candidate that a closing rescan leaves open is dropped uncounted. -/
theorem abandonAndRescan_open {rx : Receiver} (hn : Noise noise) (hs : rx.sound) (hr : rx.state ≠ .hunt)
    (hl : Noise (rx.held.drop 1)) (hg : s.lu.rx.held.drop 1 = noise ++ rx.held) :
    abandonAndRescan e s = abandonFrame e s := by
  have room := feedBound_room s.lu.rx.held.length
  have long := congrArg List.length hg
  rw [List.length_drop, List.length_append] at long
  let open_ : Receiver := { rx with gap := 5000 }
  have begun : Goes .hunting rx.held open_ :=
    goes_begun (rx := open_) rfl (Receiver.sound_congr (r := rx) (r' := open_) hs rfl rfl) hr rfl
  obtain ⟨x, later, held⟩ : ∃ x later, rx.held = x :: later := by
    cases h : rx.held with
    | cons x later => exact ⟨x, later, rfl⟩
    | nil =>
      unfold Receiver.sound at hs
      cases hst : rx.state <;> rw [hst, h] at hs
      · exact absurd hst hr
      · simp at hs
      · obtain ⟨_, _, hs, -⟩ := hs
        cases hs
  have quiet : Noise later := by rw [held] at hl; exact hl
  have count : rx.held.length = later.length + 1 := by rw [held]; rfl
  obtain ⟨m, hm⟩ : ∃ m, feedBound s.lu.rx.held.length - noise.length = later.length + m + 1 + rx.held.length :=
    ⟨feedBound s.lu.rx.held.length - noise.length - (later.length + 1 + rx.held.length), by omega⟩
  have taken := feed_goes (closing := true) (fuel := later.length + m + 1) (s := abandonFrame e s) begun rfl []
  rw [List.append_nil] at taken
  have dropped : feed true (later.length + m + 1) [] (setRx open_ (abandonFrame e s))
      = feed true (later.length + m) later (abandonFrame e s) := by
    simp only [feed, show (setRx open_ (abandonFrame e s)).lu.rx.held = x :: later from held]
    rfl
  unfold abandonAndRescan
  rw [hg, feed_noise hn rfl (by omega), hm, taken, dropped, feed_noise_end quiet rfl (by omega)]

end Abandons

/-! ## LEN and CRC errors -/

section Errors
variable {s : State} {b : Byte}

/-- R161: a LEN error abandons the frame, and its octets are taken again. -/
theorem receive_lenError {held : List Byte} (h : takeOctet s.lu.rx b = .lenError held) :
    ∃ fuel, held.length ≤ fuel + 1 ∧ receive b s = feed false fuel (held.drop 1) (abandonFrame .len s) := by
  have long : held.length = s.lu.rx.held.length + 1 := by
    rw [takeOctet_lenError h, List.length_append, List.length_singleton]
  obtain ⟨m, hm⟩ := feedBound_pos (s.lu.rx.held.length + 1)
  have := feedBound_ge (s.lu.rx.held.length + 1)
  refine ⟨m, by omega, ?_⟩
  unfold receive
  rw [hm, feed, h]
  dsimp only
  rw [List.append_nil]

/-- R161: a CRC error abandons the frame, and its octets are taken again. -/
theorem receive_crcError {held : List Byte} (h : takeOctet s.lu.rx b = .crcError held) :
    ∃ fuel, held.length ≤ fuel + 1 ∧ receive b s = feed false fuel (held.drop 1) (abandonFrame .crc s) := by
  have long : held.length = s.lu.rx.held.length + 1 := by
    rw [takeOctet_crcError h, List.length_append, List.length_singleton]
  obtain ⟨m, hm⟩ := feedBound_pos (s.lu.rx.held.length + 1)
  have := feedBound_ge (s.lu.rx.held.length + 1)
  refine ⟨m, by omega, ?_⟩
  unfold receive
  rw [hm, feed, h]
  dsimp only
  rw [List.append_nil]

/-- R161: LEN outside 2 to 240. -/
theorem takeOctet_badLen (hs : s.lu.rx.state = .header) (hh : s.lu.rx.held = [0xD3, 0x4B]) (hb : b.toNat < 2 ∨ 240 < b.toNat) :
    takeOctet s.lu.rx b = .lenError [0xD3, 0x4B, b] := by
  have bad : ¬ lenOk b = true := fun k => by
    obtain ⟨h2, h240⟩ := lenOk_iff.mp k
    omega
  unfold takeOctet
  rw [hs, hh]
  exact if_neg bad

theorem headed_of_length {α : Type} {xs : List α} (h : 2 ≤ xs.length) : ∃ a b rest, xs = a :: b :: rest := by
  match xs, h with
  | a :: b :: rest, _ => exact ⟨a, b, rest, rfl⟩

/-- R160: the octets held from LEN to the last CRC octet are judged. -/
theorem judgeFrame_octets (len kind tag c1 c0 : Byte) (payload : List Byte) :
    judgeFrame (0xD3 :: 0x4B :: len :: (kind :: tag :: payload ++ [c1, c0])) =
      if crc16 (len :: kind :: tag :: payload) = word c1 c0 then .frame kind tag payload
      else .crcError (0xD3 :: 0x4B :: len :: (kind :: tag :: payload ++ [c1, c0])) := by
  have inner : ((0xD3 :: 0x4B :: len :: (kind :: tag :: payload ++ [c1, c0])).drop 2).dropLast.dropLast
      = len :: kind :: tag :: payload := by
    show ((len :: kind :: tag :: payload) ++ ([c1] ++ [c0])).dropLast.dropLast = _
    rw [← List.append_assoc, List.dropLast_concat, List.dropLast_concat]
  have tail : (0xD3 :: 0x4B :: len :: (kind :: tag :: payload ++ [c1, c0])).drop (2 + (len :: kind :: tag :: payload).length)
      = [c1, c0] := by
    rw [← List.drop_drop]
    show ((len :: kind :: tag :: payload) ++ [c1, c0]).drop (len :: kind :: tag :: payload).length = _
    exact List.drop_left
  unfold judgeFrame
  dsimp only
  rw [inner, tail]

/-- R160, R161: a frame whose CRC octets are not those of its octets. -/
theorem takeOctet_badCrc {len c1 c0 : Byte} {rest : List Byte} (hs : s.lu.rx.state = .body)
    (hh : s.lu.rx.held ++ [b] = 0xD3 :: 0x4B :: len :: (rest ++ [c1, c0])) (hl : rest.length = len.toNat)
    (h2 : 2 ≤ len.toNat) (hc : crc16 (len :: rest) ≠ c1 ++ c0) :
    takeOctet s.lu.rx b = .crcError (0xD3 :: 0x4B :: len :: (rest ++ [c1, c0])) := by
  obtain ⟨kind, tag, payload, rfl⟩ := headed_of_length (h2.trans hl.ge)
  have whole : takeOctet s.lu.rx b = takeBody (0xD3 :: 0x4B :: len :: (kind :: tag :: payload ++ [c1, c0])) := by
    unfold takeOctet
    rw [hs, ← hh]
  have long : len.toNat + 2 ≤ (kind :: tag :: payload ++ [c1, c0]).length := by
    rw [List.length_append, hl]
    rfl
  rw [whole]
  refine (if_pos long).trans ?_
  rw [judgeFrame_octets]
  exact if_neg hc

end Errors

/-- Settles O11: a clause for each way a frame is abandoned, and the receiver's soundness at every step. -/
theorem abandonedFrames : Obligations.AbandonedFrames := by
  refine ⟨fun b s => ?_, fun s t => receiverSound_step⟩
  intro hunting onLen onCrc onGap onChar
  have gap (h : s.lu.rx.state ≠ .hunt) : exec .gapTimerExpiry s = .next (abandonAndRescan .gap s) :=
    congrArg Host.Outcome.next (if_neg h)
  have char (h : s.lu.rx.state ≠ .hunt) : exec (.receiverOctet b true) s = .next (abandonAndRescan .char s) :=
    congrArg Host.Outcome.next (if_neg h)
  refine ⟨fun hs hh hb => ?_, fun hs => ⟨?_, ?_⟩, fun hs hn => ⟨?_, ?_⟩, fun hs => ⟨⟨_, gap hs, ?_⟩, ⟨_, char hs, ?_⟩⟩,
    fun len rest c1 c0 hs hh hl h2 hc => ?_, fun noise c octets hn hw hf hs hh => ?_,
    fun noise rx hn hsound hr hl hs hg => ⟨?_, ?_⟩⟩
  · obtain ⟨fuel, hfuel, taken⟩ := receive_lenError (takeOctet_badLen hs hh hb)
    have quiet : Noise [0x4B, b] := by
      intro x hx
      rcases List.mem_pair.mp hx with rfl | rfl
      · decide
      · rintro rfl
        exact absurd hb (by decide)
    rw [exec_octet, taken]
    exact congrArg Host.Outcome.next (feed_noise_end quiet rfl (Nat.le_of_succ_le_succ hfuel))
  · exact congrArg Host.Outcome.next (if_pos hs)
  · exact congrArg Host.Outcome.next (if_pos hs)
  · rw [gap hs, abandonAndRescan_noise hn]
    rfl
  · rw [char hs, abandonAndRescan_noise hn]
    rfl
  · exact abandonAndRescan_ends .gap s
  · exact abandonAndRescan_ends .char s
  · intro later
    obtain ⟨fuel, hfuel, taken⟩ := receive_crcError (takeOctet_badCrc hs hh hl h2 hc)
    have room : later.length + 1 ≤ fuel := Nat.le_of_succ_le_succ hfuel
    have second {octets : List Byte} (hn : Noise octets) : Noise (0x4B :: octets) :=
      List.forall_mem_cons.mpr ⟨by decide, hn⟩
    have octet : exec (.receiverOctet b false) s = .next (feed false fuel (0x4B :: later) onCrc) := by
      rw [exec_octet, taken]
      rfl
    refine ⟨fun hn => ?_, fun noise c octets hn hw hf hg => ?_, fun noise rx hn hsound hr hgap hg => ?_⟩
    · rw [octet, feed_noise_end (second hn) rfl room]
    · obtain ⟨kind, tag, payload, rfl, carries⟩ := requestFrame_carries hw hf
      have long := congrArg List.length hg
      rw [List.length_append] at long
      rw [octet, carries.taken, hg, ← List.cons_append, feed_noise (second hn) rfl (by rw [List.length_cons]; omega),
        feed_frame carries.short rfl (by rw [List.length_cons]; omega) (by rw [takeFrame_hunting]; rfl)]
    · have long := congrArg List.length hg
      rw [List.length_append] at long
      obtain ⟨m, hm⟩ : ∃ m, fuel - (0x4B :: noise).length = m + rx.held.length :=
        ⟨fuel - (0x4B :: noise).length - rx.held.length, by rw [List.length_cons]; omega⟩
      have begun := feed_goes (closing := false) (fuel := m) (s := onCrc) (goes_begun rfl hsound hr hgap) rfl []
      rw [List.append_nil, feed_open_nil] at begun
      rw [octet, hg, ← List.cons_append, feed_noise (second hn) rfl (by rw [List.length_cons]; omega), hm, begun]
      rfl
  · obtain ⟨kind, tag, payload, rfl, carries⟩ := requestFrame_carries hw hf
    rw [gap hs, char hs, carries.taken, carries.taken, abandonAndRescan_frame hn carries.short hh,
      abandonAndRescan_frame hn carries.short hh]
    exact ⟨rfl, rfl⟩
  · rw [gap hs, abandonAndRescan_open hn hsound hr hl hg]
    rfl
  · rw [char hs, abandonAndRescan_open hn hsound hr hl hg]
    rfl

end Sys2Proof.Machine
end

section
/-! PROOFS. STOP outside RUNNING, and what leaves HALTED (R103). -/

namespace Sys2Proof.Machine

/-! ## A frame found whole is one of the octets held (R160) -/

section Found
variable {rx : Receiver} {b : Byte}

theorem wordOctets_word (c1 c0 : Byte) : wordOctets (word c1 c0) = [c1, c0] := by
  unfold wordOctets word
  rw [BitVec.extractLsb'_append_eq_left, BitVec.extractLsb'_append_eq_right]

theorem split_last_two {α : Type} {xs : List α} (h : 2 ≤ xs.length) : ∃ mid a b, xs = mid ++ [a, b] := by
  obtain ⟨b, a, rest, hr⟩ := headed_of_length (xs := xs.reverse) (by rw [List.length_reverse]; exact h)
  refine ⟨rest.reverse, a, b, ?_⟩
  rw [← List.reverse_reverse xs, hr]
  simp

/-- R159, R160: a frame found whole is the frame that the octets held spell. -/
theorem takeOctet_frame {kind tag : Byte} {payload : List Byte} (hs : rx.sound)
    (h : takeOctet rx b = .frame kind tag payload) : rx.held ++ [b] = linkFrame kind tag payload := by
  unfold Receiver.sound at hs
  unfold takeOctet at h
  split at h
  · cases h
  · split at h
    · split at h
      · cases h
      split at h <;> cases h
    · split at h <;> cases h
  · next hst =>
    rw [hst] at hs
    obtain ⟨len, rest, hheld, h2, h240, hl⟩ := hs
    rw [hheld] at h ⊢
    have body : takeBody (0xD3 :: 0x4B :: len :: rest ++ [b]) = if len.toNat + 2 ≤ (rest ++ [b]).length then
        judgeFrame (0xD3 :: 0x4B :: len :: (rest ++ [b])) else .goOn (holding .body (0xD3 :: 0x4B :: len :: rest ++ [b])) := rfl
    rw [body] at h
    split at h
    · next long =>
      obtain ⟨mid, c1, c0, hmid⟩ := split_last_two (xs := rest ++ [b]) (by omega)
      have count : mid.length = len.toNat := by
        have := congrArg List.length hmid
        rw [List.length_append] at this
        simp only [List.length_append, List.length_cons, List.length_nil] at this long
        omega
      obtain ⟨k, t, p, rfl⟩ := headed_of_length (h2.trans count.ge)
      rw [hmid, judgeFrame_octets] at h
      split at h
      · next crc =>
        obtain ⟨rfl, rfl, rfl⟩ := RxEvent.frame.inj h
        have lenOctet : natOctet (p.length + 2) = len := by
          refine BitVec.eq_of_toNat_eq ?_
          rw [natOctet_len (by simp only [List.length_cons] at count; omega), ← count]
          rfl
        show 0xD3 :: 0x4B :: len :: (rest ++ [b]) = linkFrame k t p
        unfold linkFrame
        dsimp only
        rw [hmid, lenOctet, crc, wordOctets_word]
        rfl
      · cases h
    · cases h

end Found

/-! ## What keeps a walk HALTED (R103) -/

section Halted
variable {r s t : State}

/-- R103: the sequencer is HALTED with the halt cause and the halt slot of `r`, or the part is STARTING. -/
def HaltedAs (r u : State) : Prop :=
  (u.seq.state = .halted ∧ u.seq.haltCause = r.seq.haltCause ∧ u.seq.haltSlot = r.seq.haltSlot) ∨ u.Starting

theorem haltedAs_kept (r : State) : WalkKept fun u => WalkRests u ∧ HaltedAs r u where
  rests h := h.1
  still h hs := by
    refine ⟨walkRests_kept.still h hs.1, hs.2.imp (fun k => ?_) (Acts.starting h)⟩
    rw [h.seq_eq]
    exact k
  moves q h hn hq := ⟨hq, h.2.imp (fun k => absurd (.inr k.1) hn) id⟩
  link u h := h
  reset pin h := ⟨walkRests_kept.reset pin h.1, .inr rfl⟩

/-- R103: frames found whole, none of them a START, keep a walk HALTED. -/
theorem feed_haltedAs {octets source : List Byte} (closing : Bool) (fuel : Nat) (h : WalkRests s ∧ HaltedAs r s)
    (hr : ReceiverSound s) (hx : s.lu.rx.held ++ octets <:+ source)
    (hno : ∀ tag slot, ¬ linkFrame kindCommand tag [1, slot] <:+: source) :
    WalkRests (feed closing fuel octets s) ∧ HaltedAs r (feed closing fuel octets s) := by
  induction fuel generalizing octets s with
  | zero => exact h
  | succ fuel ih =>
    cases octets with
    | nil =>
      unfold feed
      split
      · next x later hh =>
        have suffix : later <:+ source := by
          rw [hh, List.append_nil] at hx
          exact (List.suffix_cons x later).trans hx
        exact ih (s := setRx .hunting s) h (Receiver.sound_hunting rfl rfl) suffix
      · exact h
      · exact h
    | cons b rest =>
      rw [List.append_cons] at hx
      have again {held : List Byte} (hh : held = s.lu.rx.held ++ [b]) : held.drop 1 ++ rest <:+ source := by
        rw [hh]
        exact (List.suffix_append_self_iff.mpr (List.drop_suffix 1 _)).trans hx
      unfold feed
      split
      · next rx ho =>
        have suffix : rx.held ++ rest <:+ source :=
          (List.suffix_append_self_iff.mpr (takeOctet_goOn ho).2).trans hx
        exact ih (s := setRx rx s) h (takeOctet_sound ho hr) suffix
      · next held ho =>
        exact ih (s := abandonFrame .len s) h (Receiver.sound_hunting rfl rfl) (again (takeOctet_lenError ho))
      · next held ho =>
        exact ih (s := abandonFrame .crc s) h (Receiver.sound_hunting rfl rfl) (again (takeOctet_crcError ho))
      · next kind tag payload ho =>
        dsimp only
        have found : linkFrame kind tag payload <:+: source := by
          rw [← takeOctet_frame hr ho]
          exact (List.prefix_append _ rest).isInfix.trans hx.isInfix
        have kept : WalkRests (takeFrame kind tag payload s) ∧ HaltedAs r (takeFrame kind tag payload s) :=
          takeFrame_kept (haltedAs_kept r) (fun slot hk hp => absurd (hk ▸ hp ▸ found) (hno tag slot)) h
        split
        · exact kept
        · have hunts := takeFrame_hunting kind tag payload s
          refine ih kept (Receiver.sound_congr (r := .hunting) rfl (by rw [hunts]) (by rw [hunts])) ?_
          rw [hunts]
          exact (List.suffix_append _ rest).trans hx

end Halted

/-- R103: a STOP that is taken while the walk does not run. -/
theorem stop_answered {tag : Byte} {s : State} (h : Ready s) (hs : s.seq.state ≠ .running) :
    exec (.stop tag) s = .next (s.withLu (answered s kindCommand tag .ok [2])) := by
  have served : serveStop (s.withLu (frameTaken s)) = (s.withLu (frameTaken s), some (.plain .ok [2])) := by
    unfold serveStop stopWalk
    cases hst : s.seq.state with
    | running => exact absurd hst hs
    | stopping | idle | halted =>
      rw [show (s.withLu (frameTaken s)).seq.state = _ from hst]
      rfl
  rw [exec_stop, request_refused h served]

/-- R103: a rescan behind a START octet that is no START frame keeps a walk HALTED. -/
theorem abandonAndRescan_haltedAs {r s : State} (e : RxError) (h : WalkRests s ∧ HaltedAs r s)
    (hno : ∀ tag slot, ¬ linkFrame kindCommand tag [1, slot] <:+: s.lu.rx.held) :
    HaltedAs r (abandonAndRescan e s) :=
  (feed_haltedAs (s := abandonFrame e s) true _ h (Receiver.sound_hunting rfl rfl) (List.drop_suffix 1 _) hno).2

/-- R103: every command but a START, and the octets and errors that bring its frame whole, keeps a walk HALTED. -/
theorem exec_haltedAs {c : Instr} {s t : State} (h : WalkRests s ∧ HaltedAs s s) (hr : ReceiverSound s)
    (hs : ¬ s.Starting) (hno : ∀ tag slot, ¬ (c = .start tag slot
      ∨ (∃ b, c = .receiverOctet b false ∧ linkFrame kindCommand tag [1, slot] <:+: s.lu.rx.held ++ [b])
      ∨ ((c = .gapTimerExpiry ∨ ∃ b, c = .receiverOctet b true)
          ∧ linkFrame kindCommand tag [1, slot] <:+: s.lu.rx.held)))
    (he : exec c s = .next t) : HaltedAs s t := by
  by_cases hread : ∃ read, c = .startupReadEnd read
  · obtain ⟨read, rfl⟩ := hread
    cases he
    have idle : startupRead read s = s := if_neg hs
    show HaltedAs s (finish (startupRead read s))
    rw [idle]
    exact (finish_kept (haltedAs_kept s) h).2
  by_cases hoctet : ∃ b bad, c = .receiverOctet b bad
  · obtain ⟨b, bad, rfl⟩ := hoctet
    cases he
    cases bad with
    | false =>
      exact (feed_haltedAs false _ h hr List.suffix_rfl fun tag slot k => hno tag slot (.inr (.inl ⟨b, rfl, k⟩))).2
    | true =>
      show HaltedAs s (receiveBad s)
      unfold receiveBad
      split
      · exact h.2
      · exact abandonAndRescan_haltedAs .char h fun tag slot k => hno tag slot (.inr (.inr ⟨.inr ⟨b, rfl⟩, k⟩))
  by_cases hgap : c = .gapTimerExpiry
  · subst hgap
    cases he
    show HaltedAs s (gapExpiry s)
    unfold gapExpiry
    split
    · exact h.2
    · exact abandonAndRescan_haltedAs .gap h fun tag slot k => hno tag slot (.inr (.inr ⟨.inl rfl, k⟩))
  exact (exec_kept (haltedAs_kept s) (fun tag slot k => hno tag slot (.inl k)) (fun read k => hread ⟨read, k⟩)
    (fun b e k => hoctet ⟨b, e, k⟩) hgap he h).2

/-- Settles O38: a STOP that finds no walk changes nothing, and what keeps a walk HALTED keeps it through every command
but a START and the octets that carry one. -/
theorem stopOutsideRunning : Obligations.StopOutsideRunning := by
  refine ⟨fun tag s => stop_answered, fun c s t hh hw hr hs he => ?_⟩
  by_cases hstart : ∃ tag slot, c = .start tag slot
      ∨ (∃ b, c = .receiverOctet b false ∧ linkFrame kindCommand tag [1, slot] <:+: s.lu.rx.held ++ [b])
      ∨ ((c = .gapTimerExpiry ∨ ∃ b, c = .receiverOctet b true)
          ∧ linkFrame kindCommand tag [1, slot] <:+: s.lu.rx.held)
  · exact .inr (.inr hstart)
  · have kept : HaltedAs s t := exec_haltedAs ⟨hw, .inl ⟨hh, rfl, rfl⟩⟩ hr hs
      (fun tag slot k => hstart ⟨tag, slot, k⟩) he
    exact kept.imp id .inl

end Sys2Proof.Machine
end

section
/-! PROOFS. Work on every section and every node in turn, with the events it raises (R57, R182). -/

namespace Sys2Proof.Machine

/-! ## Events raised one after another (R182) -/

section Raises
variable {s : State}

/-- An event and its subject. -/
abbrev Occurrence := EventClass × Subject

/-- The part once events have been raised one after another and none of their reports was lost. -/
def State.raised (s : State) (es : List Occurrence) : State := { s with
  eu := unitAfterAll s (es.map (·.1)),
  lu := { s.lu with reports := reportsWith s (es.map fun e => eventNow s e.1 e.2 0) } }

theorem raised_nil (s : State) : s.raised [] = s := by
  have none_ : reportsWith s [] = s.lu.reports := by
    unfold reportsWith
    rw [List.append_nil, ite_self]
  unfold State.raised
  rw [List.map_nil, List.map_nil, none_, unitAfterAll, if_pos rfl]

theorem unitAfterAll_flags (s : State) (cs : List EventClass) :
    (unitAfterAll s cs).flags = cs.foldl (fun flags c => flags ||| flagBit c) s.eu.flags := by
  unfold unitAfterAll
  split
  · next h => rw [h]; rfl
  · exact unitWith_flags ..

theorem unitAfterAll_append (s : State) (cs ds : List EventClass) {t : State} (hs : t.store = s.store) (hc : t.cfg = s.cfg)
    (he : t.eu = unitAfterAll s cs) : unitAfterAll t ds = unitAfterAll s (cs ++ ds) := by
  cases ds with
  | nil => rw [List.append_nil, ← he, unitAfterAll, if_pos rfl]
  | cons d ds =>
    have flags : t.eu.flags = cs.foldl (fun flags c => flags ||| flagBit c) s.eu.flags := by
      rw [he, unitAfterAll_flags]
    rw [unitAfterAll, if_neg (List.cons_ne_nil d ds), unitWith_congr hs hc, flags, ← List.foldl_append, unitAfterAll,
      if_neg (by simp)]

theorem raised_append (s : State) (es fs : List Occurrence) : (s.raised es).raised fs = s.raised (es ++ fs) := by
  have units : unitAfterAll (s.raised es) (fs.map (·.1)) = unitAfterAll s ((es ++ fs).map (·.1)) := by
    rw [List.map_append]
    exact unitAfterAll_append s _ _ rfl rfl rfl
  have reports : reportsWith (s.raised es) (fs.map fun e => eventNow (s.raised es) e.1 e.2 0)
      = reportsWith s ((es ++ fs).map fun e => eventNow s e.1 e.2 0) := by
    rw [List.map_append]
    exact reportsWith_append _ rfl rfl
  unfold State.raised at units reports ⊢
  dsimp only at units reports ⊢
  rw [units, reports]

/-- R182: one event raised, with room for its report. -/
theorem raise_raised {c : EventClass} (x : Subject) (hc : c ≠ .reportLoss) (hr : RoomForReports s 1) :
    raise c x 0 s = s.raised [(c, x)] := raise_room hc hr

theorem room_raised {es : List Occurrence} {n : Nat} (h : RoomForReports s (es.length + n)) :
    RoomForReports (s.raised es) n :=
  roomForReports_after (s := s) (as := es.map fun e => eventNow s e.1 e.2 0) (by rw [List.length_map]; exact h) rfl rfl

end Raises

/-! ## Every section in turn -/

section Sections
variable {s : State}

/-- The part with its sections and its arbiter moved and events raised. -/
def State.staged (s : State) (x : Vector SectionState 8) (a : Arbiter) (es : List Occurrence) : State :=
  ((s.withSections x).withArb a).raised es

theorem staged_raised (x : Vector SectionState 8) (a : Arbiter) (es fs : List Occurrence) :
    (s.staged x a es).raised fs = s.staged x a (es ++ fs) := raised_append ..

theorem staged_self (s : State) : s.staged s.sections s.arb [] = s := raised_nil s

theorem sec_withSections_set {x : Vector SectionState 8} {n : Nat} (hn : n < 8) (y : SectionState) :
    (s.withSections (x.setIfInBounds n y)).sec n = y := sec_setSec_same (s.withSections x) y hn

theorem sec_withSections_set_other {x : Vector SectionState 8} {m n : Nat} (hn : n ≠ m) (y : SectionState) :
    (s.withSections (x.setIfInBounds n y)).sec m = (s.withSections x).sec m := sec_setSec_other (s.withSections x) y hn

/-- Work on the sections in order, each of which leaves its own record as `g` says, the arbiter as `J` says of the
sections so far, and the events `ev`. -/
theorem sections_staged {f : Nat → State → State} {g : Nat → SectionState} {ev : Nat → List Occurrence}
    {J : Nat → Arbiter → Prop} (h0 : J 0 s.arb) (hev : ∀ i, (ev i).length ≤ 1)
    (step : ∀ n x a es, n < 8 → J n a → (s.withSections x).sec n = s.sec n → es.length ≤ n →
      ∃ a', f n (s.staged x a es) = s.staged (x.setIfInBounds n (g n)) a' (es ++ ev n) ∧ J (n + 1) a') :
    ∃ x a, forSections f s = s.staged x a (sectionNumbers.flatMap ev)
      ∧ (∀ i, i < 8 → (s.withSections x).sec i = g i) ∧ J 8 a := by
  have upTo (n : Nat) (hn : n ≤ 8) : ∃ x a, (List.range n).foldl (fun t i => f i t) s
        = s.staged x a ((List.range n).flatMap ev)
      ∧ ((List.range n).flatMap ev).length ≤ n
      ∧ (∀ i, i < n → (s.withSections x).sec i = g i) ∧ (∀ i, n ≤ i → (s.withSections x).sec i = s.sec i) ∧ J n a := by
    induction n with
    | zero => exact ⟨s.sections, s.arb, (staged_self s).symm, le_rfl, fun _ h => absurd h (Nat.not_lt_zero _), fun _ _ => rfl, h0⟩
    | succ n ih =>
      obtain ⟨x, a, hx, hlen, hin, hout, ha⟩ := ih (by omega)
      obtain ⟨a', hstep, ha'⟩ := step n x a _ (by omega) ha (hout n le_rfl) hlen
      refine ⟨x.setIfInBounds n (g n), a', ?_, ?_, fun i hi => ?_, fun i hi => ?_, ha'⟩
      · rw [List.range_succ, List.foldl_append, hx, List.flatMap_append, List.flatMap_singleton]
        exact hstep
      · rw [List.range_succ, List.flatMap_append, List.flatMap_singleton, List.length_append]
        exact Nat.add_le_add hlen (hev n)
      · rcases Nat.lt_succ_iff_lt_or_eq.mp hi with hi | rfl
        · rw [sec_withSections_set_other (Nat.ne_of_gt hi), hin i hi]
        · exact sec_withSections_set (by omega) _
      · rw [sec_withSections_set_other (by omega), hout i (by omega)]
  obtain ⟨x, a, hx, -, hin, -, ha⟩ := upTo 8 le_rfl
  exact ⟨x, a, hx, hin, ha⟩

end Sections

/-! ## Every node in turn -/

section Nodes
variable {s : State}

/-- The part with its nodes and its arbiter moved. -/
def State.nodesStaged (s : State) (x : Vector NodeState 48) (a : Arbiter) : State := { s with nodes := x, arb := a }

theorem setNode_staged (x : Vector NodeState 48) (a : Arbiter) (n : Nat) (y : NodeState) :
    (s.nodesStaged x a).setNode n y = s.nodesStaged ((s.nodesStaged x a).setNode n y).nodes a := by
  unfold State.setNode
  split <;> rfl

/-- Work on the nodes in order, each of which leaves its own record as `g` says and the arbiter as `J` says of the
addresses so far. -/
theorem nodes_staged {f : Nat → State → State} {g : Nat → NodeState} {J : Nat → Arbiter → Prop} (h0 : J 0 s.arb)
    (step : ∀ n x a, n < 48 → J n a → (s.nodesStaged x a).node (1 + n) = s.node (1 + n) →
      ∃ a', f (1 + n) (s.nodesStaged x a) = (s.nodesStaged x a').setNode (1 + n) (g (1 + n)) ∧ J (n + 1) a') :
    ∃ x a, forNodes f s = s.nodesStaged x a
      ∧ (∀ i, 1 ≤ i → i ≤ 48 → (s.nodesStaged x a).node i = g i) ∧ J 48 a := by
  have upTo (n : Nat) (hn : n ≤ 48) : ∃ x a, (List.range' 1 n).foldl (fun t i => f i t) s = s.nodesStaged x a
      ∧ (∀ i, 1 ≤ i → i ≤ n → (s.nodesStaged x a).node i = g i)
      ∧ (∀ i, n < i → (s.nodesStaged x a).node i = s.node i) ∧ J n a := by
    induction n with
    | zero => exact ⟨s.nodes, s.arb, rfl, fun i h1 h0 => absurd h1 (by omega), fun _ _ => rfl, h0⟩
    | succ n ih =>
      obtain ⟨x, a, hx, hin, hout, ha⟩ := ih (by omega)
      obtain ⟨a', hstep, ha'⟩ := step n x a (by omega) ha (hout _ (by omega))
      refine ⟨((s.nodesStaged x a').setNode (1 + n) (g (1 + n))).nodes, a', ?_, fun i h1 hi => ?_, fun i hi => ?_, ha'⟩
      · rw [List.range'_1_concat, List.foldl_append, hx, ← setNode_staged]
        exact hstep
      · rw [← setNode_staged]
        rcases Nat.lt_succ_iff_lt_or_eq.mp (Nat.lt_succ_of_le hi) with hi | rfl
        · rw [node_setNode_other _ _ (by omega)]
          exact hin i h1 (by omega)
        · rw [Nat.add_comm]
          exact node_setNode_same _ _ h1 (by omega)
      · rw [← setNode_staged, node_setNode_other _ _ (by omega)]
        exact hout i (by omega)
  obtain ⟨x, a, hx, hin, -, ha⟩ := upTo 48 le_rfl
  exact ⟨x, a, hx, hin, ha⟩

end Nodes

end Sys2Proof.Machine
end

section
/-! PROOFS. What the Node Table and the Frost Guard do at a cycle mark (R14, R37 to R44). -/

namespace Sys2Proof.Machine

/-! ## Ageing (R14) -/

section Ageing
variable {s : State}

theorem setNode_self {a : Nat} (h1 : 1 ≤ a) (h48 : a ≤ 48) (s : State) : s.setNode a (s.node a) = s := by
  unfold State.setNode State.node
  rw [if_neg (by omega), if_neg (by omega), Vector.getElem?_eq_getElem (by omega), Option.getD_some]
  refine congrArg s.withNodes (Vector.ext fun j hj => ?_)
  rw [Vector.getElem_setIfInBounds]
  split
  · next h => subst h; rfl
  · rfl

/-- A node outside the part has its power-on values. -/
theorem node_outside {a : Nat} (h : ¬ InPart a) (s : State) : s.node a = .powerOn := by
  unfold State.node
  split
  · rfl
  · rw [Vector.getElem?_eq_none (by unfold InPart at h; omega)]
    rfl

/-- R14: a node as the mark ages it. -/
def agedNode (s : State) (a : Nat) : NodeState :=
  { s.node a with age := if s.kindOf a = .none then (s.node a).age else satSucc 255 (s.node a).age }

theorem nodeMark_staged (s : State) : ∃ x, nodeMark s = s.withNodes x ∧ ∀ a, (s.withNodes x).node a = agedNode s a := by
  have step (n : Nat) (x : Vector NodeState 48) (a : Arbiter) (hn : n < 48) (ha : a = s.arb)
      (own : (s.nodesStaged x a).node (1 + n) = s.node (1 + n)) :
      ∃ a', ageNode (1 + n) (s.nodesStaged x a) = (s.nodesStaged x a').setNode (1 + n) (agedNode s (1 + n)) ∧ a' = s.arb := by
    refine ⟨a, ?_, ha⟩
    unfold ageNode agedNode
    rw [own]
    by_cases hk : s.kindOf (1 + n) = .none
    · rw [if_pos (by exact hk), if_pos hk]
      exact ((congrArg _ own.symm).trans (setNode_self (by omega) (by omega) _)).symm
    · rw [if_neg (by exact hk), if_neg hk]
  obtain ⟨x, a, hx, hnode, ha⟩ := nodes_staged (s := s) (J := fun _ a => a = s.arb) rfl step
  subst ha
  refine ⟨x, hx, fun a => ?_⟩
  by_cases hp : InPart a
  · exact hnode a hp.1 hp.2
  · have none_ : s.kindOf a = .none := by
      by_contra k
      exact hp (kindOf_inPart k)
    unfold agedNode
    rw [if_pos none_, node_outside hp, node_outside hp]

end Ageing

/-! ## The sight of the sections (R37 to R39) -/

section Sights
variable {u : State}

/-- R37: the sight of section `i` as the mark judges it, the nodes aged. -/
def sightNow (u : State) (i : Nat) : Sight :=
  if (u.secCfg i).enabled = true then
    sightAfter (u.sec i).sight (judgeSight u (u.secCfg i).outlet (u.secCfg i).staleLimit (u.secCfg i).blindLimit)
  else (u.sec i).sight

/-- R37: a sight that moves at a mark moves to BLIND or STALE. -/
theorem sightAfter_moved (judged before : Sight) :
    sightAfter before judged = before ∨ sightAfter before judged = .blind ∨ sightAfter before judged = .stale := by
  cases before with
  | seen =>
    cases judged with
    | seen => exact .inl rfl
    | stale => exact .inr (.inr rfl)
    | blind => exact .inr (.inl rfl)
  | stale =>
    cases judged with
    | seen | stale => exact .inl rfl
    | blind => exact .inr (.inl rfl)
  | blind => exact .inl rfl

/-- R38, R39: the record of section `i` once its sight has been judged, its limits as they stand. -/
def sightedSec (u : State) (i : Nat) : SectionState :=
  { u.sec i with
    sight := sightNow u i,
    ceiling := if sightNow u i = .blind ∧ (u.sec i).sight ≠ .blind then min (u.sec i).ceiling (u.secCfg i).blindCeiling
      else (u.sec i).ceiling }

/-- R38, R39: the record of section `i` once its sight has been judged. -/
def markedSec (u : State) (i : Nat) : SectionState :=
  if sightNow u i = (u.sec i).sight then u.sec i else derivedSec (u.setSec i (sightedSec u i)) i

theorem markedSec_limitless {i : Nat} (hi : i < 8) : limitless (markedSec u i) = limitless (sightedSec u i) := by
  unfold markedSec
  split
  · next h =>
    unfold sightedSec
    rw [if_neg (fun k => k.2 (h ▸ k.1)), h]
  · rw [limitless_derivedSec, sec_setSec_same u _ hi]

/-- The nodes of the sections below `n` that the judged sights bring into FROST. -/
def SightPosts (u : State) (n a : Nat) : Prop :=
  ∃ i, i < n ∧ sightNow u i ≠ (u.sec i).sight ∧ StandsBy u i (markedSec u i) a

theorem lt_succ_exists {p : Nat → Prop} {n : Nat} : (∃ i, i < n + 1 ∧ p i) ↔ (∃ i, i < n ∧ p i) ∨ p n := by
  constructor
  · rintro ⟨i, hi, hp⟩
    rcases Nat.lt_succ_iff_lt_or_eq.mp hi with hi | rfl
    · exact .inl ⟨i, hi, hp⟩
    · exact .inr hp
  · rintro (⟨i, hi, hp⟩ | hp)
    · exact ⟨i, Nat.lt_succ_of_lt hi, hp⟩
    · exact ⟨n, Nat.lt_succ_self n, hp⟩

/-- Work on one section leaves the FROST queue as the sections so far bring it. -/
def FrostUpTo (u : State) (posts : Nat → Nat → Prop) (n : Nat) (a : Arbiter) : Prop :=
  ∃ q, a = { u.arb with frost := q } ∧ Joined (posts n) u.arb.frost q

theorem setSec_staged (x : Vector SectionState 8) (a : Arbiter) (es : List Occurrence) (i : Nat) (y : SectionState) (q : List Nat) :
    ((u.staged x a es).setSec i y).withFrost q = u.staged (x.setIfInBounds i y) { a with frost := q } es := rfl

theorem staged_own {x : Vector SectionState 8} {i : Nat} (hi : i < 8) (own : (u.withSections x).sec i = u.sec i)
    (a : Arbiter) (es : List Occurrence) : u.staged (x.setIfInBounds i (u.sec i)) a es = u.staged x a es := by
  have same := setSec_self hi (u.withSections x)
  rw [own] at same
  have sections : x.setIfInBounds i (u.sec i) = x := congrArg State.sections same
  rw [sections]

theorem room_staged {x : Vector SectionState 8} {a : Arbiter} {es : List Occurrence} {n m : Nat} (h : RoomForReports u n)
    (hm : es.length + m ≤ n) : RoomForReports (u.staged x a es) m :=
  room_raised (s := (u.withSections x).withArb a) (RoomForReports.le (by exact h) hm)

/-- R37 to R39: one section's sight is judged. -/
theorem markSection_step {n : Nat} {x : Vector SectionState 8} {a : Arbiter} {es : List Occurrence} (hn : n < 8)
    (hw : PostsWait u) (hr : RoomForReports u 8) (ha : FrostUpTo u (SightPosts u) n a)
    (own : (u.withSections x).sec n = u.sec n) (hes : es.length ≤ n) :
    ∃ a', markSection n (u.staged x a es) = u.staged (x.setIfInBounds n (markedSec u n)) a'
        (es ++ if sightNow u n = .blind ∧ (u.sec n).sight ≠ .blind then [(.blind, .sec n)] else [])
      ∧ FrostUpTo u (SightPosts u) (n + 1) a' := by
  obtain ⟨q, rfl, hq⟩ := ha
  let t := u.staged x { u.arb with frost := q } es
  have sec : t.sec n = u.sec n := own
  have cfg : t.secCfg n = u.secCfg n := rfl
  by_cases hsame : sightNow u n = (u.sec n).sight
  · refine ⟨_, ?_, q, rfl, hq.congr fun b => ?_⟩
    · have stays : markSection n t = t := by
        unfold markSection
        dsimp only
        rw [sec, cfg]
        unfold sightNow at hsame
        by_cases he : (u.secCfg n).enabled = true
        · rw [if_pos he] at hsame
          rw [if_pos he]
          exact if_pos hsame
        · rw [if_neg he]
      rw [if_neg (fun k => k.2 (hsame ▸ k.1)), List.append_nil, markedSec, if_pos hsame, staged_own hn own]
      exact stays
    · unfold SightPosts
      rw [lt_succ_exists]
      exact ⟨.inl, fun k => k.resolve_right fun k => k.1 hsame⟩
  · have enabled : (u.secCfg n).enabled = true := by
      by_contra he
      exact hsame (if_neg he)
    let y := sightedSec u n
    obtain ⟨r, hrq, hj⟩ := deriveAndCheck_joins (s := t.setSec n y) hn (by exact hw)
    have derived : derivedSec (t.setSec n y) n = markedSec u n := by
      rw [markedSec, if_neg hsame]
      exact derivedSec_congr ((sec_setSec_same t y hn).trans (sec_setSec_same u y hn).symm) rfl rfl
    rw [derived, setSec_setSec, setSec_staged] at hrq
    rw [derived] at hj
    have joined : FrostUpTo u (SightPosts u) (n + 1) { u.arb with frost := r } :=
      ⟨r, rfl, (hq.trans hj).congr fun b => by
        unfold SightPosts
        rw [lt_succ_exists]
        exact or_congr_right (and_iff_right hsame).symm⟩
    refine ⟨_, ?_, joined⟩
    have judged : sightAfter (t.sec n).sight (judgeSight t (t.secCfg n).outlet (t.secCfg n).staleLimit (t.secCfg n).blindLimit)
        = sightNow u n := by
      rw [sec]
      exact (if_pos enabled).symm
    have before : (t.sec n).sight = (u.sec n).sight := by rw [sec]
    unfold markSection
    dsimp only
    rw [if_pos (by exact enabled)]
    rw [show sightAfter ((u.staged x { u.arb with frost := q } es).sec n).sight _ = sightNow u n from judged]
    rw [show ((u.staged x { u.arb with frost := q } es).sec n).sight = (u.sec n).sight from before, if_neg hsame]
    by_cases hb : sightNow u n = .blind
    · have changed : sightNow u n = .blind ∧ (u.sec n).sight ≠ .blind := ⟨hb, fun k => hsame (hb.trans k.symm)⟩
      have record : { t.sec n with sight := .blind, ceiling := min (t.sec n).ceiling (t.secCfg n).blindCeiling } = y := by
        unfold y sightedSec
        rw [if_pos changed, hb, sec, cfg]
      rw [if_pos hb, if_pos changed]
      unfold enterBlind
      dsimp only
      rw [show State.setSec _ n _ = t.setSec n y from congrArg (t.setSec n) record, hrq,
        raise_raised _ (by decide) (room_staged hr (by omega)), staged_raised]
    · have stale : sightNow u n = .stale := by
        have moved := sightAfter_moved (judgeSight u (u.secCfg n).outlet (u.secCfg n).staleLimit (u.secCfg n).blindLimit)
          (u.sec n).sight
        rw [show sightAfter _ _ = sightNow u n from (if_pos enabled).symm] at moved
        exact (moved.resolve_left hsame).resolve_left hb
      have record : { t.sec n with sight := .stale } = y := by
        unfold y sightedSec
        rw [if_neg fun k => hb k.1, stale, sec]
      rw [if_neg hb, if_pos stale, if_neg fun k => hb k.1, List.append_nil]
      unfold enterStale
      rw [show State.setSec _ n _ = t.setSec n y from congrArg (t.setSec n) record, hrq]

/-- 2.7.3: the sights of the sections at a mark. -/
theorem markSections_staged (hw : PostsWait u) (hr : RoomForReports u 8) :
    ∃ x q, forSections markSection u = u.staged x { u.arb with frost := q } (sectionNumbers.flatMap fun i =>
        if sightNow u i = .blind ∧ (u.sec i).sight ≠ .blind then [(.blind, .sec i)] else [])
      ∧ (∀ i, i < 8 → (u.withSections x).sec i = markedSec u i) ∧ Joined (SightPosts u 8) u.arb.frost q := by
  obtain ⟨x, a, hx, hsec, q, rfl, hq⟩ := sections_staged (s := u) (g := markedSec u) (f := markSection)
    (J := FrostUpTo u (SightPosts u))
    ⟨u.arb.frost, rfl, Joined.refl (fun _ ⟨_, k, _⟩ => absurd k (Nat.not_lt_zero _)) _⟩
    (fun i => by split <;> simp) fun n x a es hn ha own hes => markSection_step hn hw hr ha own hes
  exact ⟨x, q, hx, hsec, hq⟩

end Sights

/-! ## The sights of the loop (R40 to R42) and the transient windows (R44) -/

section Loop
variable {u : State}

/-- R40: the supply sight as the mark judges it, the nodes aged. -/
def supplyNow (u : State) : Sight :=
  if u.cfg.loop.supply = 0 then u.loop.supplySight
  else sightAfter u.loop.supplySight
    (judgeSight u u.cfg.loop.supply u.cfg.loop.staleLimit u.cfg.loop.blindLimit)

/-- R40: the supply enters BLIND at the mark. -/
abbrev SupplyBlinds (u : State) : Prop := supplyNow u = .blind ∧ u.loop.supplySight ≠ .blind

/-- R40: the loop record once the supply sight has been judged. -/
def suppliedLoop (u : State) : LoopState :=
  { u.loop with supplySight := supplyNow u,
                ceiling := if SupplyBlinds u then min u.loop.ceiling u.cfg.loop.blindCeiling else u.loop.ceiling }

/-- R40: the supply sight is judged: where L moves every section is derived and checked. -/
theorem markSupply_staged (hw : PostsWait u) (hr : RoomForReports u 1) :
    ∃ x q, markSupply u = (u.withLoop (suppliedLoop u)).staged x { u.arb with frost := q }
        (if SupplyBlinds u then [(.blind, .node u.cfg.loop.supply)] else [])
      ∧ ((suppliedLoop u).ceiling = u.loop.ceiling → x = u.sections ∧ q = u.arb.frost)
      ∧ ((suppliedLoop u).ceiling ≠ u.loop.ceiling →
        (∀ i, i < 8 → (u.withSections x).sec i = derivedSec (u.withLoop (suppliedLoop u)) i)
          ∧ Joined (fun a => ∃ i, i < 8 ∧ StandsBy u i (derivedSec (u.withLoop (suppliedLoop u)) i) a) u.arb.frost q) := by
  by_cases hb : SupplyBlinds u
  · let v := u.withLoop (suppliedLoop u)
    obtain ⟨x, q, hx, hsame, hmoved⟩ := afterLoopCeiling_joins (s := v) u.loop.ceiling hw
    refine ⟨x, q, ?_, hsame, hmoved⟩
    obtain ⟨hblind, hbefore⟩ := id hb
    have named : ¬ u.cfg.loop.supply = 0 := fun k => hbefore ((if_pos k).symm.trans hblind)
    have judged : sightAfter u.loop.supplySight
        (judgeSight u u.cfg.loop.supply u.cfg.loop.staleLimit u.cfg.loop.blindLimit) = supplyNow u := (if_neg named).symm
    have record : { u.loop with supplySight := .blind, ceiling := min u.loop.ceiling u.cfg.loop.blindCeiling }
        = suppliedLoop u := by
      unfold suppliedLoop
      rw [if_pos hb, hblind]
    rw [if_pos hb]
    unfold markSupply
    dsimp only
    rw [if_neg named, judged, if_neg (fun k => hbefore (k.symm.trans hblind)), if_pos hblind]
    unfold supplyBlind
    dsimp only
    rw [show u.withLoop _ = v from congrArg u.withLoop record, hx, raise_raised _ (by decide) (by exact hr)]
    rfl
  · have ceiling : (suppliedLoop u).ceiling = u.loop.ceiling := if_neg hb
    refine ⟨u.sections, u.arb.frost, ?_, fun _ => ⟨rfl, rfl⟩, fun k => absurd ceiling k⟩
    have quiet : markSupply u = u.withLoop (suppliedLoop u) := by
      unfold markSupply suppliedLoop
      rw [if_neg hb]
      dsimp only
      by_cases h0 : u.cfg.loop.supply = 0
      · rw [if_pos h0, supplyNow, if_pos h0]
        rfl
      · have judged : sightAfter u.loop.supplySight
            (judgeSight u u.cfg.loop.supply u.cfg.loop.staleLimit u.cfg.loop.blindLimit) = supplyNow u := (if_neg h0).symm
        rw [if_neg h0, judged]
        by_cases hsame : supplyNow u = u.loop.supplySight
        · rw [if_pos hsame, hsame]
          rfl
        · rw [if_neg hsame, if_neg fun k => hb ⟨k, fun j => hsame (k.trans j.symm)⟩]
    rw [quiet, if_neg hb]
    exact (staged_self (s := u.withLoop (suppliedLoop u))).symm

/-- R44: the record of section `i` once its transient window has been counted down. -/
def countedSec (u : State) (i : Nat) : SectionState :=
  { u.sec i with transient := if (u.secCfg i).enabled = true then (u.sec i).transient - 1 else (u.sec i).transient }

/-- Work on the sections in order that writes each section's own record alone, from its tables and the loop. -/
theorem sections_written {f : Nat → State → State} {g : Nat → SectionState}
    (step : ∀ n t, n < 8 → t.cfg = u.cfg → t.loop = u.loop → t.sec n = u.sec n → f n t = t.setSec n (g n)) :
    ∃ x, forSections f u = u.withSections x ∧ ∀ i, i < 8 → (u.withSections x).sec i = g i := by
  obtain ⟨x, a, hx, hsec, ha⟩ := sections_staged (s := u) (g := g) (f := f) (ev := fun _ => [])
    (J := fun _ a => a = u.arb) rfl (fun _ => Nat.zero_le _) fun n x a es hn ha own _ => by
      refine ⟨a, ?_, ha⟩
      rw [List.append_nil]
      exact step n (u.staged x a es) hn rfl rfl own
  subst ha
  refine ⟨x, ?_, hsec⟩
  have none_ : sectionNumbers.flatMap (fun _ => ([] : List Occurrence)) = [] := rfl
  rw [hx, none_]
  exact raised_nil (u.withSections x)

theorem markTransients_staged (u : State) : ∃ x, forSections markTransient u = u.withSections x
    ∧ ∀ i, i < 8 → (u.withSections x).sec i = countedSec u i := by
  refine sections_written fun n t hn hc _ own => ?_
  have record : t.secCfg n = u.secCfg n := by rw [State.secCfg, hc, State.secCfg]
  unfold markTransient countedSec
  rw [record, ← own]
  by_cases he : (u.secCfg n).enabled = true
  · rw [if_pos he, if_pos he]
  · rw [if_neg he, if_neg he]
    exact (setSec_self hn t).symm

end Loop

end Sys2Proof.Machine
end

section
/-! PROOFS. What Flush Accounting and the Exchange Engine do at a cycle mark (R57, R58, R85, R89). -/

namespace Sys2Proof.Machine

/-! ## The FLUSH queue (R57) -/

section FlushMark
variable {u : State}

/-- R57 case 3, with the return sight judged. -/
abbrev PostNow (u : State) (i : Nat) : Prop := FlushJudged u i ∧ ¬ StartWaits u i ∧ ¬ flushBlocked u i = true

/-- R57 case 2, with the return sight judged. -/
abbrev BlockNow (u : State) (i : Nat) : Prop := FlushJudged u i ∧ ¬ StartWaits u i ∧ flushBlocked u i = true

/-- R57 case 1: an entry of the FLUSH queue once the sections below `n` have been judged. -/
def mandated (u : State) (n : Nat) (r : FlushRequest) : FlushRequest :=
  if r.kind = .pulseStart ∧ r.sec < n ∧ FlushJudged u r.sec ∧ (u.sec r.sec).balance = 7 then { r with mandatory := true }
  else r

/-- R57: the START that the mark posts for section `i`. -/
def markStart (u : State) (i : Nat) : FlushRequest :=
  { sec := i, kind := .pulseStart, mandatory := decide ((u.sec i).balance = 7) }

/-- R57: the FLUSH queue once the sections below `n` have been judged. -/
def flushUpTo (u : State) (n : Nat) : List FlushRequest :=
  u.arb.flush.map (mandated u n) ++ ((List.range n).filter fun i => decide (PostNow u i)).map (markStart u)

theorem mandated_key (u : State) (n : Nat) (r : FlushRequest) : (mandated u n r).key = r.key := by
  unfold mandated
  split <;> rfl

theorem mandated_zero (u : State) (r : FlushRequest) : mandated u 0 r = r := if_neg fun k => absurd k.2.1 (Nat.not_lt_zero _)

theorem mandated_succ {n : Nat} {r : FlushRequest}
    (h : r.kind = .pulseStart → r.sec = n → ¬ (FlushJudged u n ∧ (u.sec n).balance = 7)) :
    mandated u (n + 1) r = mandated u n r := by
  unfold mandated
  refine if_congr ⟨fun ⟨hk, hs, hj⟩ => ?_, fun ⟨hk, hs, hj⟩ => ⟨hk, Nat.lt_succ_of_lt hs, hj⟩⟩ rfl rfl
  rcases Nat.lt_succ_iff_lt_or_eq.mp hs with hs | hs
  · exact ⟨hk, hs, hj⟩
  · rw [hs] at hj
    exact absurd hj (h hk hs)

/-- A START of section `n` stands in the queue after the sections below `n` just where it stood before. -/
theorem startQueued_upTo {t : State} {n : Nat} (ht : t.arb.flush = flushUpTo u n) :
    startQueued t n = true ↔ StartWaits u n := by
  unfold startQueued
  rw [any_sameKey, ht, flushUpTo, List.map_append, List.mem_append, List.map_map]
  have keys : FlushRequest.key ∘ mandated u n = FlushRequest.key := funext (mandated_key u n)
  rw [keys]
  refine ⟨fun k => k.resolve_right fun k => ?_, .inl⟩
  obtain ⟨r, hr, hk⟩ := List.mem_map.mp k
  obtain ⟨i, hi, rfl⟩ := List.mem_map.mp hr
  have below := List.mem_range.mp (List.mem_filter.mp hi).1
  have same : i = n := congrArg Prod.fst hk
  omega

theorem filter_range_succ (p : Nat → Bool) (n : Nat) :
    (List.range (n + 1)).filter p = (List.range n).filter p ++ if p n = true then [n] else [] := by
  rw [List.range_succ, List.filter_append]
  cases h : p n <;> simp [h]

/-- What stands where section `n` brings no post of its own. -/
theorem flushUpTo_succ {n : Nat} (hp : ¬ PostNow u n) :
    flushUpTo u (n + 1) = u.arb.flush.map (mandated u (n + 1))
      ++ ((List.range n).filter fun i => decide (PostNow u i)).map (markStart u) := by
  unfold flushUpTo
  rw [filter_range_succ, if_neg (by rw [decide_eq_true_eq]; exact hp), List.append_nil]

theorem flushUpTo_stands {n : Nat} (hp : ¬ PostNow u n)
    (h : ∀ r ∈ u.arb.flush, r.kind = .pulseStart → r.sec = n → ¬ (FlushJudged u n ∧ (u.sec n).balance = 7)) :
    flushUpTo u (n + 1) = flushUpTo u n := by
  rw [flushUpTo_succ hp, flushUpTo, List.map_congr_left fun r hr => mandated_succ (h r hr)]

theorem flushUpTo_posts {n : Nat} (hp : PostNow u n) : flushUpTo u (n + 1) = flushUpTo u n ++ [markStart u n] := by
  have quiet : u.arb.flush.map (mandated u (n + 1)) = u.arb.flush.map (mandated u n) :=
    List.map_congr_left fun r hr => mandated_succ fun hk hs _ => hp.2.1 (List.mem_map.mpr ⟨r, hr, by
      unfold FlushRequest.key
      rw [hk, hs]⟩)
  unfold flushUpTo
  rw [filter_range_succ, if_pos (by rw [decide_eq_true_eq]; exact hp), List.map_append, quiet, List.append_assoc]
  rfl

theorem flushUpTo_mandates {n : Nat} (hj : FlushJudged u n) (hw : StartWaits u n) (hb : (u.sec n).balance = 7) :
    flushUpTo u (n + 1) = (flushUpTo u n).map fun r =>
      if r.sameKey { sec := n, kind := .pulseStart, mandatory := true } then { r with mandatory := true } else r := by
  have same (r : FlushRequest) : r.sameKey { sec := n, kind := .pulseStart, mandatory := true } = true
      ↔ r.sec = n ∧ r.kind = .pulseStart := by
    unfold FlushRequest.sameKey
    rw [Bool.and_eq_true, beq_iff_eq, beq_iff_eq]
  rw [flushUpTo_succ fun k => k.2.1 hw, flushUpTo, List.map_append, List.map_map, List.map_map]
  refine congrArg₂ _ (List.map_congr_left fun r _ => ?_) (List.map_congr_left fun i hi => ?_)
  · have keys := mandated_key u n r
    by_cases hr : r.sec = n ∧ r.kind = .pulseStart
    · obtain ⟨rfl, hk⟩ := id hr
      have before : mandated u r.sec r = r := if_neg fun k => absurd k.2.1 (Nat.lt_irrefl _)
      rw [mandated, if_pos ⟨hk, Nat.lt_succ_self _, hj, hb⟩, Function.comp_apply, before, if_pos ((same r).mpr hr)]
    · have differs : ¬ (mandated u n r).sameKey { sec := n, kind := .pulseStart, mandatory := true } = true := fun k => by
        obtain ⟨hs, hk⟩ := (same _).mp k
        exact hr ⟨(congrArg Prod.fst keys).symm.trans hs, (congrArg Prod.snd keys).symm.trans hk⟩
      rw [mandated_succ fun hk hs => absurd ⟨hs, hk⟩ hr, Function.comp_apply, if_neg differs]
  · have below := List.mem_range.mp (List.mem_filter.mp hi).1
    exact (if_neg fun k => absurd ((same _).mp k).1 (by show ¬ i = n; omega)).symm

/-- R57, R58: the record of section `i` once the mark has judged its flush. -/
def flushedSec (u : State) (i : Nat) : SectionState :=
  { u.sec i with blocked := (u.sec i).blocked || decide (BlockNow u i) }

/-- R57: one section's flush is judged. -/
theorem markFlush_step {n : Nat} {x : Vector SectionState 8} {es : List Occurrence} (hn : n < 8) (hw : PostsWait u)
    (hr : RoomForReports u 8) (own : (u.withSections x).sec n = u.sec n) (hes : es.length ≤ n) :
    markFlush n (u.staged x { u.arb with flush := flushUpTo u n } es)
      = u.staged (x.setIfInBounds n (flushedSec u n)) { u.arb with flush := flushUpTo u (n + 1) }
        (es ++ if BlockNow u n ∧ (u.sec n).blocked = false then [(.flushBlocked, .sec n)] else []) := by
  let t := u.staged x { u.arb with flush := flushUpTo u n } es
  have sec : t.sec n = u.sec n := own
  have threshold : effectiveThreshold t n = if u.mode = .autonomous then 1 else (u.secCfg n).postThreshold := by
    unfold effectiveThreshold
    rw [show t.mode = u.mode from rfl]
    cases u.mode <;> rfl
  have judged : ((t.secCfg n).enabled = false ∨ (t.sec n).flow = .flushing ∨ (t.sec n).balance < effectiveThreshold t n)
      ↔ ¬ FlushJudged u n := by
    rw [sec, threshold]
    unfold FlushJudged
    rw [show t.secCfg n = u.secCfg n from rfl]
    rw [not_and_or, not_and_or, Bool.not_eq_true, not_not, not_le]
  have queued := startQueued_upTo (u := u) (t := t) (n := n) rfl
  have blocked : flushBlocked t n = flushBlocked u n := rfl
  have stands (hb : ¬ BlockNow u n) : u.staged (x.setIfInBounds n (flushedSec u n)) { u.arb with flush := flushUpTo u n }
      (es ++ if BlockNow u n ∧ (u.sec n).blocked = false then [(.flushBlocked, .sec n)] else []) = t := by
    have same : flushedSec u n = u.sec n := by
      unfold flushedSec
      rw [decide_eq_false hb, Bool.or_false]
    rw [if_neg fun k => hb k.1, List.append_nil, same]
    exact staged_own hn own _ es
  unfold markFlush
  dsimp only
  by_cases hj : FlushJudged u n
  · rw [if_neg fun k => judged.mp k hj]
    by_cases hq : StartWaits u n
    · have kept : ¬ BlockNow u n := fun k => k.2.1 hq
      rw [if_pos (queued.mpr hq)]
      by_cases hb : (u.sec n).balance = 7
      · have present : t.arb.flush.any (·.sameKey { sec := n, kind := .pulseStart, mandatory := true }) = true :=
          queued.mpr hq
        rw [if_pos (by rw [← hb, ← sec]), postFlush, if_pos present, if_pos rfl, flushUpTo_mandates hj hq hb]
        exact congrArg (fun v : State => v.withArb { u.arb with flush := (flushUpTo u n).map _ }) (stands kept).symm
      · rw [if_neg (by rw [← sec] at hb; exact hb),
          flushUpTo_stands (fun k => k.2.1 hq) (fun _ _ _ _ k => hb k.2)]
        exact (stands kept).symm
    · rw [if_neg fun k => hq (queued.mp k)]
      have absent : ∀ r ∈ u.arb.flush, r.kind = .pulseStart → r.sec = n → ¬ (FlushJudged u n ∧ (u.sec n).balance = 7) :=
        fun r hr hk hs _ => hq (List.mem_map.mpr ⟨r, hr, by unfold FlushRequest.key; rw [hk, hs]⟩)
      by_cases hblock : flushBlocked u n = true
      · have found : BlockNow u n := ⟨hj, hq, hblock⟩
        rw [if_pos (by exact hblock), flushUpTo_stands (fun k => k.2.2 hblock) absent]
        unfold reportBlocked
        cases hm : (u.sec n).blocked with
        | true =>
          have same : flushedSec u n = u.sec n := by
            have flag : ((u.sec n).blocked || decide (BlockNow u n)) = (u.sec n).blocked := by
              simp only [hm, Bool.true_or]
            unfold flushedSec
            rw [flag]
          rw [if_pos (by rw [← hm, ← sec]), if_neg (fun k => nomatch k.2), List.append_nil, same]
          exact (staged_own hn own _ es).symm
        | false =>
          have record : { t.sec n with blocked := true } = flushedSec u n := by
            unfold flushedSec
            rw [sec, decide_eq_true found, Bool.or_true]
          have marked : t.setSec n { t.sec n with blocked := true }
              = u.staged (x.setIfInBounds n (flushedSec u n)) { u.arb with flush := flushUpTo u n } es :=
            congrArg (t.setSec n) record
          rw [if_neg (by rw [show ((u.staged x _ es).sec n).blocked = _ from congrArg SectionState.blocked sec, hm]; nofun),
            if_pos ⟨found, rfl⟩]
          rw [show State.setSec _ n _ = _ from marked, raise_raised _ (by decide) (room_staged hr (by omega)), staged_raised]
      · have posts : PostNow u n := ⟨hj, hq, hblock⟩
        have notQueued : t.arb.flush.any (·.sameKey (markStart u n)) = false :=
          Bool.eq_false_iff.mpr fun k => hq (queued.mp k)
        have start : ({ sec := n, kind := .pulseStart, mandatory := (t.sec n).balance == 7 } : FlushRequest) = markStart u n := by
          rw [sec]
          rfl
        rw [if_neg (by exact hblock), flushUpTo_posts posts]
        rw [show postFlush _ _ = postFlush (markStart u n) t from congrArg (postFlush · t) start,
          postFlush_waits (by exact hw) notQueued]
        exact congrArg (fun v : State => v.withArb { u.arb with flush := flushUpTo u n ++ [markStart u n] })
          (stands fun k => hblock k.2.2).symm
  · rw [if_pos (judged.mpr hj), flushUpTo_stands (fun k => hj k.1) (fun _ _ _ _ k => hj k.1)]
    exact (stands fun k => hj k.1).symm

/-- R57: what Flush Accounting does at a cycle mark. -/
theorem flushMark_staged (hw : PostsWait u) (hr : RoomForReports u 8) :
    ∃ x, flushMark u = u.staged x { u.arb with flush := flushUpTo u 8 } (sectionNumbers.flatMap fun i =>
        if BlockNow u i ∧ (u.sec i).blocked = false then [(.flushBlocked, .sec i)] else [])
      ∧ ∀ i, i < 8 → (u.withSections x).sec i = flushedSec u i := by
  have start : flushUpTo u 0 = u.arb.flush := by
    unfold flushUpTo
    rw [List.map_congr_left fun r _ => mandated_zero u r, List.map_id']
    exact List.append_nil _
  obtain ⟨x, a, hx, hsec, rfl⟩ := sections_staged (s := u) (g := flushedSec u) (f := markFlush)
    (J := fun n a => a = { u.arb with flush := flushUpTo u n })
    (ev := fun i => if BlockNow u i ∧ (u.sec i).blocked = false then [(.flushBlocked, .sec i)] else [])
    (by rw [start]) (fun i => by split <;> simp)
    fun n x a es hn ha own hes => by
      subst ha
      exact ⟨_, markFlush_step hn hw hr own hes, rfl⟩
  exact ⟨x, hx, hsec⟩

end FlushMark

/-! ## The probe countdowns (R85, R89) -/

section Probes
variable {u : State}

theorem probePosted_lane {l : Lane} : probePosted u (.lane l) = true
    ↔ (u.lane l).health = .down ∧ (u.lane l).probeCountdown ≤ 1 ∧ .lane l ∉ u.arb.probe := decide_eq_true_iff

theorem probePosted_node {a : Nat} : probePosted u (.node a) = true
    ↔ (u.node a).health = .silent ∧ (u.node a).probeCountdown ≤ 1 ∧ .node a ∉ u.arb.probe := decide_eq_true_iff

/-- R123: an entry that joins a queue unless one of its key is there. -/
theorem joined_once (q : List ProbeTarget) (p : ProbeTarget) (b : Prop) [Decidable b] (hb : b ↔ p ∉ q) :
    (if p ∈ q then q else q ++ [p]) = q ++ if b then [p] else [] := by
  by_cases hp : p ∈ q
  · rw [if_pos hp, if_neg fun k => hb.mp k hp, List.append_nil]
  · rw [if_neg hp, if_pos (hb.mpr hp)]

/-- R89: a node whose probe countdown the mark has counted down. -/
def probedNode (u : State) (a : Nat) : NodeState := { u.node a with
  probeCountdown := if (u.node a).health = .silent then countedDown u (u.node a).probeCountdown
    else (u.node a).probeCountdown }

theorem setLane_self (l : Lane) (s : State) : s.setLane l (s.lane l) = s := by cases l <;> rfl

theorem markLane_waits (l : Lane) (hw : PostsWait u) : markLane l u = (u.setLane l (laneAtMark u l)).withArb
    { u.arb with probe := u.arb.probe ++ if probePosted u (.lane l) = true then [.lane l] else [] } := by
  have quiet {x : State} (hx : x.arb = u.arb) (hp : ¬ probePosted u (.lane l) = true) : x = x.withArb { u.arb with
      probe := u.arb.probe ++ if probePosted u (.lane l) = true then [.lane l] else [] } := by
    rw [if_neg hp, List.append_nil, ← hx]
    rfl
  unfold markLane
  cases hh : (u.lane l).health with
  | up =>
    have stands : laneAtMark u l = u.lane l := by
      unfold laneAtMark
      dsimp only
      rw [hh, if_neg nofun, ← hh]
    rw [if_pos rfl, stands, setLane_self]
    exact quiet rfl fun k => absurd (hh.symm.trans (probePosted_lane.mp k).1) (by decide)
  | down =>
    rw [if_neg nofun]
    by_cases hc : (u.lane l).probeCountdown ≤ 1
    · have reloaded : laneAtMark u l = { u.lane l with probeCountdown := u.cfg.linkSet.probeInterval } := by
        unfold laneAtMark countedDown
        dsimp only
        rw [if_pos hh, if_pos hc]
      rw [if_pos hc, laneProbeDue_waits l hw, reloaded, joined_once _ _ (probePosted u (.lane l) = true)
        (probePosted_lane.trans ⟨fun k => k.2.2, fun k => ⟨hh, hc, k⟩⟩)]
    · have counted : laneAtMark u l = { u.lane l with probeCountdown := (u.lane l).probeCountdown - 1 } := by
        unfold laneAtMark countedDown
        dsimp only
        rw [if_pos hh, if_neg hc]
      rw [if_neg hc, counted]
      exact quiet (setLane_arb ..) fun k => hc (probePosted_lane.mp k).2.1

theorem markNodeProbe_waits {a : Nat} (h1 : 1 ≤ a) (h48 : a ≤ 48) (hw : PostsWait u) :
    markNodeProbe a u = (u.setNode a (probedNode u a)).withArb
      { u.arb with probe := u.arb.probe ++ if probePosted u (.node a) = true then [.node a] else [] } := by
  have quiet {x : State} (hx : x.arb = u.arb) (hp : ¬ probePosted u (.node a) = true) : x = x.withArb { u.arb with
      probe := u.arb.probe ++ if probePosted u (.node a) = true then [.node a] else [] } := by
    rw [if_neg hp, List.append_nil, ← hx]
    rfl
  unfold markNodeProbe
  cases hh : (u.node a).health with
  | active =>
    have stands : probedNode u a = u.node a := by
      unfold probedNode
      rw [hh, if_neg nofun]
    rw [if_pos rfl, stands, setNode_self h1 h48]
    exact quiet rfl fun k => absurd (hh.symm.trans (probePosted_node.mp k).1) (by decide)
  | silent =>
    rw [if_neg nofun]
    by_cases hc : (u.node a).probeCountdown ≤ 1
    · have reloaded : probedNode u a = { u.node a with probeCountdown := u.cfg.linkSet.probeInterval } := by
        unfold probedNode countedDown
        rw [if_pos hh, if_pos hc]
      rw [if_pos hc, nodeProbeDue_waits a hw, reloaded, joined_once _ _ (probePosted u (.node a) = true)
        (probePosted_node.trans ⟨fun k => k.2.2, fun k => ⟨hh, hc, k⟩⟩)]
    · have counted : probedNode u a = { u.node a with probeCountdown := (u.node a).probeCountdown - 1 } := by
        unfold probedNode countedDown
        rw [if_pos hh, if_neg hc]
      rw [if_neg hc, counted]
      exact quiet (setNode_arb ..) fun k => hc (probePosted_node.mp k).2.1

/-- R89: the PROBE queue once the nodes 1 to `n` have been counted down. -/
def nodesProbed (u : State) (n : Nat) : List ProbeTarget :=
  u.arb.probe ++ ((List.range' 1 n).map fun a => ProbeTarget.node a).filter (probePosted u)

theorem nodesProbed_succ (u : State) (n : Nat) : nodesProbed u (n + 1) = nodesProbed u n
    ++ if probePosted u (.node (1 + n)) = true then [.node (1 + n)] else [] := by
  unfold nodesProbed
  rw [List.range'_1_concat, List.map_append, List.filter_append, List.append_assoc, List.map_singleton]
  cases h : probePosted u (.node (1 + n)) <;> simp [h]

theorem node_mem_nodesProbed {n : Nat} : ProbeTarget.node (1 + n) ∈ nodesProbed u n ↔ .node (1 + n) ∈ u.arb.probe := by
  unfold nodesProbed
  rw [List.mem_append]
  refine ⟨fun k => k.resolve_right fun k => ?_, .inl⟩
  obtain ⟨a, ha, heq⟩ := List.mem_map.mp (List.mem_filter.mp k).1
  cases heq
  rw [List.mem_range'_1] at ha
  omega

theorem setNode_withArb (x : Vector NodeState 48) (a b : Arbiter) (n : Nat) (y : NodeState) :
    ((u.nodesStaged x a).setNode n y).withArb b = (u.nodesStaged x b).setNode n y := by
  unfold State.setNode
  split <;> rfl

/-- R89: every node is counted down, and the probes that are due are posted in address order. -/
theorem markNodeProbes_staged (hw : PostsWait u) :
    ∃ x, forNodes markNodeProbe u = u.nodesStaged x { u.arb with probe := nodesProbed u 48 }
      ∧ ∀ a, (u.withNodes x).node a = probedNode u a := by
  have step (n : Nat) (x : Vector NodeState 48) (a : Arbiter) (hn : n < 48)
      (ha : a = { u.arb with probe := nodesProbed u n }) (own : (u.nodesStaged x a).node (1 + n) = u.node (1 + n)) :
      ∃ a', markNodeProbe (1 + n) (u.nodesStaged x a) = (u.nodesStaged x a').setNode (1 + n) (probedNode u (1 + n))
        ∧ a' = { u.arb with probe := nodesProbed u (n + 1) } := by
    subst ha
    refine ⟨_, ?_, rfl⟩
    let t := u.nodesStaged x { u.arb with probe := nodesProbed u n }
    have record : probedNode t (1 + n) = probedNode u (1 + n) := by
      unfold probedNode
      rw [own]
      rfl
    have posted : probePosted t (.node (1 + n)) = probePosted u (.node (1 + n)) := by
      rw [Bool.eq_iff_iff, probePosted_node, probePosted_node, own]
      exact and_congr_right fun _ => and_congr_right fun _ => not_congr node_mem_nodesProbed
    rw [markNodeProbe_waits (by omega) (by omega) (by exact hw), record, posted, nodesProbed_succ]
    exact setNode_withArb ..
  have start : nodesProbed u 0 = u.arb.probe := List.append_nil _
  obtain ⟨x, a, hx, hnode, rfl⟩ := nodes_staged (s := u) (J := fun n a => a = { u.arb with probe := nodesProbed u n })
    (by rw [start]) step
  refine ⟨x, hx, fun a => ?_⟩
  by_cases hp : InPart a
  · exact hnode a hp.1 hp.2
  · unfold probedNode
    rw [node_outside hp, node_outside hp]
    rfl

end Probes

end Sys2Proof.Machine
end

section
/-! PROOFS. What the Frost Guard leaves of a cycle mark, in terms of the state in which the mark passes (R37 to R44). -/

namespace Sys2Proof.Machine

section FrostMarks
variable {s u : State}

/-- The part as the blocks leave it at a mark. -/
def State.marked (s : State) (n : Vector NodeState 48) (x : Vector SectionState 8) (l : LoopState) (a : Arbiter)
    (es : List Occurrence) : State := State.raised { s with nodes := n, sections := x, loop := l, arb := a } es

theorem marked_staged (n : Vector NodeState 48) (x x' : Vector SectionState 8) (l : LoopState) (a a' : Arbiter)
    (es fs : List Occurrence) : (s.marked n x l a es).staged x' a' fs = s.marked n x' l a' (es ++ fs) :=
  raised_append (s := { s with nodes := n, sections := x', loop := l, arb := a' }) es fs

/-- R37: the table of transitions, by what the judgement finds. -/
theorem sightAfter_if (lost aged : Prop) [Decidable lost] [Decidable aged] (before : Sight) :
    sightAfter before (if lost then .blind else if aged then .stale else .seen)
      = if before = .blind ∨ lost then .blind else if aged ∨ before = .stale then .stale else .seen := by
  cases before <;> by_cases hl : lost <;> by_cases ha : aged <;> simp [hl, ha, sightAfter]

/-- R37: a sight as the mark judges it on aged nodes. -/
theorem sightAfter_judged (hn : ∀ a, u.node a = agedNode s a) (hx : u.xe = s.xe) (a stale blind : Nat) (before : Sight) :
    sightAfter before (judgeSight u a stale blind) = sightAtMark s a stale blind before := by
  have age : (u.node a).age = (nodeAtMark s a).age := by rw [hn]; rfl
  have health : (u.node a).health = (nodeAtMark s a).health := by rw [hn]; rfl
  have value : (u.node a).value = (nodeAtMark s a).value := by rw [hn]; rfl
  have down : u.BothDown ↔ s.BothDown := by unfold State.BothDown; rw [hx]
  refine (sightAfter_if _ _ before).trans (if_congr ?_ rfl (if_congr ?_ rfl rfl))
  · rw [age, health, value, down]
  · rw [age]

/-- What a mark leaves alone and what it ages, seen from a state within it. -/
structure WithinMark (s u : State) : Prop where
  nodes : ∀ a, u.node a = agedNode s a
  xe : u.xe = s.xe
  cfg : u.cfg = s.cfg

theorem WithinMark.secCfg (h : WithinMark s u) (i : Nat) : u.secCfg i = s.secCfg i := by
  unfold State.secCfg
  rw [h.cfg]

theorem WithinMark.standsBy (h : WithinMark s u) {i a : Nat} {y z : SectionState} (he : z.fanCeiling = y.fanCeiling)
    (hv : z.valveFloor = y.valveFloor) : StandsBy u i y a ↔ StandsBy s i z a := by
  unfold StandsBy
  rw [h.secCfg, h.nodes, he, hv]
  exact Iff.rfl

theorem WithinMark.sightNow (h : WithinMark s u) {i : Nat} (hs : u.sec i = s.sec i) : sightNow u i = sectionSight s i := by
  unfold Machine.sightNow sectionSight
  dsimp only
  rw [h.secCfg, hs, sightAfter_judged h.nodes h.xe]

theorem WithinMark.supplyNow (h : WithinMark s u) (hl : u.loop = s.loop) : supplyNow u = (loopAtMark s).supplySight := by
  unfold Machine.supplyNow loopAtMark
  dsimp only
  rw [h.cfg, hl, sightAfter_judged h.nodes h.xe]

theorem WithinMark.supplyBlinds (h : WithinMark s u) (hl : u.loop = s.loop) :
    SupplyBlinds u ↔ (loopAtMark s).supplySight = .blind ∧ s.loop.supplySight ≠ .blind := by
  unfold SupplyBlinds
  rw [h.supplyNow hl, hl]

theorem WithinMark.suppliedLoop (h : WithinMark s u) (hl : u.loop = s.loop) : suppliedLoop u =
    { s.loop with supplySight := (loopAtMark s).supplySight, ceiling := (loopAtMark s).ceiling } := by
  have ceiling : (Machine.suppliedLoop u).ceiling = (loopAtMark s).ceiling :=
    if_congr (h.supplyBlinds hl) (by rw [hl, h.cfg]) (by rw [hl])
  have record : Machine.suppliedLoop u
      = { u.loop with supplySight := Machine.supplyNow u, ceiling := (Machine.suppliedLoop u).ceiling } := rfl
  rw [record, ceiling, h.supplyNow hl, hl]

theorem WithinMark.loopSight (h : WithinMark s u) (a : Nat) (before : Sight) : loopSight u a before =
    if a = 0 then .blind else sightAtMark s a s.cfg.loop.staleLimit s.cfg.loop.blindLimit before := by
  unfold Machine.loopSight
  rw [h.cfg, sightAfter_judged h.nodes h.xe]

/-- R41, R42: the loop record once the mark has judged all its sights. -/
theorem markReturnAmbient_within (h : WithinMark s u)
    (hl : u.loop = { s.loop with supplySight := (loopAtMark s).supplySight, ceiling := (loopAtMark s).ceiling }) :
    markReturnAmbient u = u.withLoop (loopAtMark s) := by
  unfold markReturnAmbient
  dsimp only
  rw [h.loopSight, h.loopSight, hl, h.cfg]
  rfl

/-- The record of section `i` once the Frost Guard has taken the mark, its limits as they stand. -/
def frostedSec (s : State) (i : Nat) : SectionState := { s.sec i with
  sight := sectionSight s i,
  ceiling := if SectionBlinds s i then min (s.sec i).ceiling (s.secCfg i).blindCeiling else (s.sec i).ceiling,
  transient := if (s.secCfg i).enabled = true then (s.sec i).transient - 1 else (s.sec i).transient }

/-- R29: the limits that a section record holds derive from it, for the L of the mark. -/
def LimitsAtMark (s : State) (i : Nat) (y : SectionState) : Prop :=
  y.fanCeiling = fanCeilingOf y.flow y.ceiling (loopAtMark s).ceiling
    ∧ y.valveFloor = valveFloorOf y.flow y.sight (s.secCfg i).valveMin y.ceiling

/-- The limits of the sections and the FROST queue once the mark has been taken. -/
structure LimitsMarked (s : State) (x : Vector SectionState 8) (q : List Nat) : Prop where
  derived : ∀ i, i < 8 → MarkRederives s i → LimitsAtMark s i ((s.withSections x).sec i)
    ∧ ∀ a, StandsBy s i ((s.withSections x).sec i) a → a ∈ q
  stands : ∀ i, i < 8 → ¬ MarkRederives s i →
    ((s.withSections x).sec i).fanCeiling = (s.sec i).fanCeiling
      ∧ ((s.withSections x).sec i).valveFloor = (s.sec i).valveFloor
  kept : s.arb.frost <+: q
  only : ∀ a ∈ q, a ∈ s.arb.frost
    ∨ ∃ i, i < 8 ∧ MarkRederives s i ∧ (a ∈ (s.secCfg i).fans ∨ (a = (s.secCfg i).valve ∧ a ≠ 0))

/-- What the Frost Guard leaves of a mark: the sections and the FROST queue. -/
structure FrostMarked (s : State) (x : Vector SectionState 8) (q : List Nat) : Prop extends LimitsMarked s x q where
  own : ∀ i, i < 8 → limitless ((s.withSections x).sec i) = limitless (frostedSec s i)

theorem limitsAtMark_derived {i : Nat} (hc : u.secCfg i = s.secCfg i) (hl : u.loop.ceiling = (loopAtMark s).ceiling) :
    LimitsAtMark s i (derivedSec u i) := by
  unfold LimitsAtMark derivedSec
  rw [hc, hl]
  exact ⟨rfl, rfl⟩

/-- What the Frost Guard leaves of a mark before the transient windows: L has moved, and every section is derived anew, or
stands, and a section whose sight has moved is derived. -/
theorem frostMarked_of_stages {x2 x3 : Vector SectionState 8} {q2 q3 : List Nat} {N : Vector NodeState 48}
    (hn : ∀ a, (s.withNodes N).node a = agedNode s a)
    (h2 : ∀ i, i < 8 → (s.withSections x2).sec i = markedSec (s.withNodes N) i)
    (j2 : Joined (SightPosts (s.withNodes N) 8) s.arb.frost q2)
    (hw : WithinMark s u) (hx : u.sections = x2) (hq : u.arb.frost = q2) (hl : u.loop = s.loop)
    (same : (suppliedLoop u).ceiling = u.loop.ceiling → x3 = u.sections ∧ q3 = u.arb.frost)
    (moved : (suppliedLoop u).ceiling ≠ u.loop.ceiling →
      (∀ i, i < 8 → (u.withSections x3).sec i = derivedSec (u.withLoop (suppliedLoop u)) i)
        ∧ Joined (fun a => ∃ i, i < 8 ∧ StandsBy u i (derivedSec (u.withLoop (suppliedLoop u)) i) a) u.arb.frost q3)
    {x5 : Vector SectionState 8}
    (h5 : ∀ i, i < 8 → (s.withSections x5).sec i = { (s.withSections x3).sec i with transient :=
      if (s.secCfg i).enabled = true then ((s.withSections x3).sec i).transient - 1
        else ((s.withSections x3).sec i).transient }) :
    FrostMarked s x5 q3 := by
  subst hx hq
  have within : WithinMark s (s.withNodes N) := ⟨hn, rfl, rfl⟩
  have sight (i : Nat) : sightNow (s.withNodes N) i = sectionSight s i := within.sightNow rfl
  have ceiling : (suppliedLoop u).ceiling = (loopAtMark s).ceiling := by rw [hw.suppliedLoop hl]
  have loop : u.loop.ceiling = s.loop.ceiling := by rw [hl]
  rw [ceiling, loop] at same moved
  have marked (i : Nat) (hi : i < 8) : limitless (markedSec (s.withNodes N) i) = limitless { s.sec i with
      sight := sectionSight s i,
      ceiling := if SectionBlinds s i then min (s.sec i).ceiling (s.secCfg i).blindCeiling else (s.sec i).ceiling } := by
    rw [markedSec_limitless hi]
    unfold sightedSec
    rw [sight]
    rfl
  have third (i : Nat) (hi : i < 8) : limitless ((s.withSections x3).sec i) = limitless (markedSec (s.withNodes N) i) := by
    by_cases hc : (loopAtMark s).ceiling = s.loop.ceiling
    · rw [(same hc).1]
      exact congrArg limitless (h2 i hi)
    · rw [show (s.withSections x3).sec i = _ from (moved hc).1 i hi, limitless_derivedSec]
      exact congrArg limitless (h2 i hi)
  have standsBy {i a : Nat} (hi : i < 8) : StandsBy s i ((s.withSections x5).sec i) a
      ↔ StandsBy s i ((s.withSections x3).sec i) a := by
    rw [h5 i hi]
    exact Iff.rfl
  refine ⟨⟨fun i hi hr => ?_, fun i hi hr => ?_, ?_, fun a ha => ?_⟩, fun i hi => ?_⟩
  · have limits : LimitsAtMark s i ((s.withSections x5).sec i) ↔ LimitsAtMark s i ((s.withSections x3).sec i) := by
      rw [h5 i hi]
      exact Iff.rfl
    rw [limits]
    simp only [standsBy hi]
    by_cases hc : (loopAtMark s).ceiling = s.loop.ceiling
    · have changed : sightNow (s.withNodes N) i ≠ ((s.withNodes N).sec i).sight := by
        rw [sight]
        exact hr.resolve_right fun k => k hc
      have record : (s.withSections x3).sec i = markedSec (s.withNodes N) i := by
        rw [(same hc).1]
        exact h2 i hi
      rw [record, (same hc).2]
      refine ⟨?_, fun a ha => j2.all a ⟨i, hi, changed, (within.standsBy rfl rfl).mpr ha⟩⟩
      rw [markedSec, if_neg changed]
      exact limitsAtMark_derived rfl hc.symm
    · obtain ⟨hsec, hj⟩ := moved hc
      rw [show (s.withSections x3).sec i = _ from hsec i hi]
      exact ⟨limitsAtMark_derived (hw.secCfg i) ceiling, fun a ha => hj.all a ⟨i, hi, (hw.standsBy rfl rfl).mpr ha⟩⟩
  · obtain ⟨hsight, hc⟩ := not_or.mp hr
    have unchanged : sightNow (s.withNodes N) i = ((s.withNodes N).sec i).sight := by
      rw [sight]
      exact not_not.mp hsight
    have record : (s.withSections x3).sec i = s.sec i := by
      rw [(same (not_not.mp hc)).1]
      exact (h2 i hi).trans (if_pos unchanged)
    rw [h5 i hi, record]
    exact ⟨rfl, rfl⟩
  · by_cases hc : (loopAtMark s).ceiling = s.loop.ceiling
    · rw [(same hc).2]
      exact j2.kept
    · exact j2.kept.trans (moved hc).2.kept
  · have before : a ∈ u.arb.frost → a ∈ s.arb.frost
        ∨ ∃ i, i < 8 ∧ MarkRederives s i ∧ (a ∈ (s.secCfg i).fans ∨ (a = (s.secCfg i).valve ∧ a ≠ 0)) := fun ha =>
      (j2.only a ha).imp_right fun ⟨i, hi, changed, hst⟩ => ⟨i, hi, .inl (sight i ▸ changed), hst.role⟩
    by_cases hc : (loopAtMark s).ceiling = s.loop.ceiling
    · rw [(same hc).2] at ha
      exact before ha
    · rcases (moved hc).2.only a ha with ha | ⟨i, hi, hst⟩
      · exact before ha
      · have role := hst.role
        rw [hw.secCfg] at role
        exact .inr ⟨i, hi, .inr hc, role⟩
  · have all := (third i hi).trans (marked i hi)
    have count : ((s.withSections x3).sec i).transient = (s.sec i).transient := by
      have k := congrArg SectionState.transient all
      exact k
    rw [h5 i hi, count]
    exact congrArg (fun y : SectionState => { y with
      transient := if (s.secCfg i).enabled = true then (s.sec i).transient - 1 else (s.sec i).transient }) all

theorem flatMap_if {α β : Type} (p : α → Prop) [DecidablePred p] (f : α → β) (l : List α) :
    (l.flatMap fun i => if p i then [f i] else []) = (l.filter fun i => decide (p i)).map f := by
  induction l with
  | nil => rfl
  | cons i l ih =>
    rw [List.flatMap_cons, ih]
    by_cases h : p i <;> simp [h]

/-- R39, R40: the events of a mark that the Frost Guard raises. -/
def blindEvents (s : State) : List Occurrence :=
  ((sectionNumbers.filter fun i => decide (SectionBlinds s i)).map fun i => (.blind, .sec i))
    ++ (if (loopAtMark s).supplySight = .blind ∧ s.loop.supplySight ≠ .blind then
        [(.blind, .node s.cfg.loop.supply)] else [])

theorem frostMark_marked (hw : PostsWait s) (hr : RoomForReports s 9) :
    ∃ N x q, frostMark (nodeMark s) = s.marked N x (loopAtMark s) { s.arb with frost := q } (blindEvents s)
      ∧ (∀ a, (s.withNodes N).node a = agedNode s a) ∧ FrostMarked s x q := by
  obtain ⟨N, aged, hN⟩ := nodeMark_staged s
  have within : WithinMark s (s.withNodes N) := ⟨hN, rfl, rfl⟩
  obtain ⟨x2, q2, sections, h2, j2⟩ := markSections_staged (u := s.withNodes N) hw (RoomForReports.le hr (by decide))
  have events : (sectionNumbers.flatMap fun i => if sightNow (s.withNodes N) i = .blind
      ∧ ((s.withNodes N).sec i).sight ≠ .blind then [((.blind, .sec i) : Occurrence)] else [])
        = (sectionNumbers.filter fun i => decide (SectionBlinds s i)).map fun i => (.blind, .sec i) := by
    rw [← flatMap_if]
    refine List.flatMap_congr fun i _ => ?_
    rw [within.sightNow rfl]
    rfl
  rw [events] at sections
  generalize hes : (sectionNumbers.filter fun i => decide (SectionBlinds s i)).map
    (fun i => ((.blind, .sec i) : Occurrence)) = es2 at sections
  have few : es2.length ≤ 8 := by
    rw [← hes, List.length_map]
    exact List.length_filter_le ..
  let u2 := (s.withNodes N).staged x2 { s.arb with frost := q2 } es2
  have within2 : WithinMark s u2 := ⟨hN, rfl, rfl⟩
  obtain ⟨x3, q3, supply, same, moved⟩ := markSupply_staged (u := u2) hw
    (room_staged (u := s.withNodes N) hr (by omega))
  have supplied : (if SupplyBlinds u2 then [((.blind, .node u2.cfg.loop.supply) : Occurrence)] else [])
      = if (loopAtMark s).supplySight = .blind ∧ s.loop.supplySight ≠ .blind then [(.blind, .node s.cfg.loop.supply)]
        else [] := if_congr (within2.supplyBlinds rfl) rfl rfl
  rw [supplied] at supply
  generalize hes' : (if (loopAtMark s).supplySight = .blind ∧ s.loop.supplySight ≠ .blind then
    [((.blind, .node s.cfg.loop.supply) : Occurrence)] else []) = es3 at supply
  let u3 := (u2.withLoop (suppliedLoop u2)).staged x3 { u2.arb with frost := q3 } es3
  have loop := markReturnAmbient_within (s := s) (u := u3) ⟨hN, rfl, rfl⟩ (within2.suppliedLoop rfl)
  obtain ⟨x5, transients, h5⟩ := markTransients_staged (u3.withLoop (loopAtMark s))
  refine ⟨N, x5, q3, ?_, hN, frostMarked_of_stages hN h2 j2 within2 rfl rfl rfl same moved h5⟩
  unfold frostMark blindEvents
  rw [aged, show forSections markSection (s.withNodes N) = u2 from sections, show markSupply u2 = u3 from supply, loop,
    transients, hes, hes']
  exact raised_append (s := { s with
    nodes := N, sections := x5, loop := loopAtMark s, arb := { s.arb with frost := q3 } }) es2 es3

end FrostMarks

end Sys2Proof.Machine
end

section
/-! PROOFS. A cycle mark as every block takes it (R109), and the ways a MARK passes (R108, R110). -/

namespace Sys2Proof.Machine

/-! ## Every block has taken the mark (R109) -/

section Announced
variable {s u : State}

theorem secCfg_outside {i : Nat} (hi : ¬ i < 8) (s : State) : s.secCfg i = defaultSection := by
  unfold State.secCfg
  rw [Vector.getElem?_eq_none (by omega)]
  rfl

/-- The part after the Frost Guard has taken the mark, as Flush Accounting finds it. -/
structure FrostTaken (s u : State) : Prop where
  nodes : ∀ a, u.node a = agedNode s a
  cfg : u.cfg = s.cfg
  mode : u.mode = s.mode
  loop : u.loop = loopAtMark s
  flush : u.arb.flush = s.arb.flush
  own : ∀ i, i < 8 → limitless (u.sec i) = limitless (frostedSec s i)

theorem FrostTaken.secCfg (h : FrostTaken s u) (i : Nat) : u.secCfg i = s.secCfg i := by
  unfold State.secCfg
  rw [h.cfg]

theorem FrostTaken.flow (h : FrostTaken s u) {i : Nat} (hi : i < 8) : (u.sec i).flow = (s.sec i).flow := by
  have k := congrArg SectionState.flow (h.own i hi)
  exact k

theorem FrostTaken.balance (h : FrostTaken s u) {i : Nat} (hi : i < 8) : (u.sec i).balance = (s.sec i).balance := by
  have k := congrArg SectionState.balance (h.own i hi)
  exact k

theorem FrostTaken.blocked (h : FrostTaken s u) {i : Nat} (hi : i < 8) : (u.sec i).blocked = (s.sec i).blocked := by
  have k := congrArg SectionState.blocked (h.own i hi)
  exact k

theorem FrostTaken.judged (h : FrostTaken s u) (i : Nat) : FlushJudged u i ↔ FlushJudged s i := by
  by_cases hi : i < 8
  · unfold FlushJudged
    rw [h.secCfg, h.flow hi, h.balance hi, h.mode]
  · have off : ¬ (s.secCfg i).enabled = true := by
      rw [secCfg_outside hi]
      nofun
    exact ⟨fun k => absurd (h.secCfg i ▸ k.1) off, fun k => absurd k.1 off⟩

theorem FrostTaken.waits (h : FrostTaken s u) (i : Nat) : StartWaits u i ↔ StartWaits s i := by
  unfold StartWaits
  rw [h.flush]

theorem FrostTaken.isBlocked (h : FrostTaken s u) (i : Nat) : flushBlocked u i = true ↔ FlushIsBlocked s i := by
  have health (a : Nat) : (u.node a).health = (s.node a).health := by rw [h.nodes]; rfl
  have value : (loopAtMark s).retValue = s.loop.retValue := rfl
  unfold flushBlocked FlushIsBlocked
  dsimp only
  rw [h.secCfg, health, h.loop, h.cfg, value, Bool.or_eq_true, Bool.and_eq_true, beq_iff_eq, beq_iff_eq]
  cases s.loop.retValue <;> rfl

theorem FrostTaken.posts (h : FrostTaken s u) (i : Nat) : PostNow u i ↔ StartPosted s i := by
  unfold PostNow StartPosted
  rw [h.judged, h.waits, h.isBlocked]

theorem FrostTaken.blocks (h : FrostTaken s u) (i : Nat) : BlockNow u i ↔ BlockFound s i := by
  unfold BlockNow BlockFound
  rw [h.judged, h.waits, h.isBlocked]

theorem FrostTaken.flushQueue (h : FrostTaken s u) : flushUpTo u 8 = flushAtMark s := by
  have mandate (r : FlushRequest) : mandated u 8 r =
      if r.kind = .pulseStart ∧ FlushJudged s r.sec ∧ (s.sec r.sec).balance = 7 then { r with mandatory := true } else r := by
    unfold mandated
    refine if_congr (and_congr_right fun _ => ⟨fun ⟨hi, hj, hb⟩ => ?_, fun ⟨hj, hb⟩ => ?_⟩) rfl rfl
    · exact ⟨(h.judged _).mp hj, h.balance hi ▸ hb⟩
    · have hi : r.sec < 8 := by
        by_contra k
        have enabled := hj.1
        rw [secCfg_outside k] at enabled
        cases enabled
      exact ⟨hi, (h.judged _).mpr hj, (h.balance hi).trans hb⟩
  have filtered : (List.range 8).filter (fun i => decide (PostNow u i))
      = sectionNumbers.filter fun i => decide (StartPosted s i) :=
    List.filter_congr fun i _ => decide_eq_decide.mpr (h.posts i)
  have mapped : u.arb.flush.map (mandated u 8) = s.arb.flush.map fun r =>
      if r.kind = .pulseStart ∧ FlushJudged s r.sec ∧ (s.sec r.sec).balance = 7 then { r with mandatory := true } else r := by
    rw [h.flush]
    exact List.map_congr_left fun r _ => mandate r
  unfold flushUpTo flushAtMark
  rw [mapped, filtered]
  refine congrArg _ (List.map_congr_left fun i hi => ?_)
  have i8 := mem_sectionNumbers.mp (List.mem_filter.mp hi).1
  unfold markStart
  rw [h.balance i8]

/-- R58: the events that Flush Accounting raises at a mark. -/
def blockedEvents (s : State) : List Occurrence :=
  (sectionNumbers.filter fun i => decide (BlockFound s i ∧ (s.sec i).blocked = false)).map fun i => (.flushBlocked, .sec i)

theorem FrostTaken.events (h : FrostTaken s u) : (sectionNumbers.flatMap fun i =>
    if BlockNow u i ∧ (u.sec i).blocked = false then [((.flushBlocked, .sec i) : Occurrence)] else []) = blockedEvents s := by
  unfold blockedEvents
  rw [← flatMap_if]
  refine List.flatMap_congr fun i hi => if_congr ?_ rfl rfl
  rw [h.blocks, h.blocked (mem_sectionNumbers.mp hi)]

/-! ## The probes (R85, R89) -/

/-- The part before the Exchange Engine has taken the mark: lanes and probe queue as they were, nodes aged. -/
structure ProbesAwait (s u : State) : Prop where
  nodes : ∀ a, u.node a = agedNode s a
  lanes : ∀ l, u.lane l = s.lane l
  cfg : u.cfg = s.cfg
  probe : u.arb.probe = s.arb.probe

theorem mem_behind {p r : ProbeTarget} {q : List ProbeTarget} (c : Prop) [Decidable c] (h : p ≠ r) :
    (p ∈ q ++ if c then [r] else []) ↔ p ∈ q := by
  rw [List.mem_append]
  refine ⟨fun k => k.resolve_right fun k => ?_, .inl⟩
  split at k
  · exact h (List.mem_singleton.mp k)
  · exact absurd k List.not_mem_nil

/-- R85: both lanes are counted down, and the probes that are due are posted. -/
theorem markLanes_waits (hw : PostsWait u) : markLane .b (markLane .a u)
    = { u with xe := { u.xe with laneA := laneAtMark u .a, laneB := laneAtMark u .b }, arb := { u.arb with
        probe := (u.arb.probe ++ if probePosted u (.lane .a) = true then [.lane .a] else [])
          ++ if probePosted u (.lane .b) = true then [.lane .b] else [] } } := by
  let v := (u.setLane .a (laneAtMark u .a)).withArb
    { u.arb with probe := u.arb.probe ++ if probePosted u (.lane .a) = true then [.lane .a] else [] }
  have posted : probePosted v (.lane .b) = probePosted u (.lane .b) := by
    rw [Bool.eq_iff_iff, probePosted_lane, probePosted_lane]
    exact and_congr_right fun _ => and_congr_right fun _ => not_congr (mem_behind _ nofun)
  rw [markLane_waits .a hw, show (u.setLane .a _).withArb _ = v from rfl, markLane_waits .b (by exact hw), posted]
  rfl

/-- R85, R89: what the Exchange Engine does at a cycle mark. -/
theorem probeMark_waits (hw : PostsWait u) (h : ProbesAwait s u) :
    ∃ N, probeMark u = { u with
        nodes := N, xe := { u.xe with laneA := laneAtMark s .a, laneB := laneAtMark s .b },
        arb := { u.arb with probe := probesAtMark s } }
      ∧ ∀ a, (u.withNodes N).node a = nodeAtMark s a := by
  have laneMark (l : Lane) : laneAtMark u l = laneAtMark s l := by
    unfold laneAtMark countedDown
    rw [h.lanes, h.cfg]
  have postedLane (l : Lane) : probePosted u (.lane l) = probePosted s (.lane l) := by
    rw [Bool.eq_iff_iff, probePosted_lane, probePosted_lane, h.lanes, h.probe]
  have lanes := markLanes_waits hw
  rw [laneMark, laneMark, postedLane, postedLane, h.probe] at lanes
  generalize hq : (s.arb.probe ++ if probePosted s (.lane .a) = true then [.lane .a] else [])
    ++ (if probePosted s (.lane .b) = true then [ProbeTarget.lane .b] else []) = q at lanes
  let v : State := { u with
    xe := { u.xe with laneA := laneAtMark s .a, laneB := laneAtMark s .b }, arb := { u.arb with probe := q } }
  have postedNode (a : Nat) : probePosted v (.node a) = probePosted s (.node a) := by
    have behind : ProbeTarget.node a ∈ q ↔ .node a ∈ s.arb.probe := by
      rw [← hq]
      exact (mem_behind _ (by nofun)).trans (mem_behind _ (by nofun))
    rw [Bool.eq_iff_iff, probePosted_node, probePosted_node, show v.node a = u.node a from rfl, h.nodes]
    exact and_congr_right fun _ => and_congr_right fun _ => not_congr behind
  have queue : nodesProbed v 48 = probesAtMark s := by
    have nodes : ((List.range' 1 48).map fun a => ProbeTarget.node a).filter (probePosted v)
        = (nodeAddresses.map fun a => ProbeTarget.node a).filter (probePosted s) := by
      refine List.filter_congr fun p hp => ?_
      obtain ⟨a, -, rfl⟩ := List.mem_map.mp hp
      exact postedNode a
    unfold nodesProbed probesAtMark
    rw [nodes, show v.arb.probe = q from rfl, ← hq, List.filter_append, List.append_assoc, List.append_assoc]
    refine congrArg (s.arb.probe ++ ·) ?_
    rw [← List.append_assoc]
    refine congrArg (· ++ _) ?_
    cases ha : probePosted s (.lane .a) <;> cases hb : probePosted s (.lane .b) <;> simp [ha, hb]
  obtain ⟨N, nodes, hN⟩ := markNodeProbes_staged (u := v) hw
  rw [queue] at nodes
  refine ⟨N, ?_, fun a => ?_⟩
  · unfold probeMark
    rw [lanes]
    exact nodes
  · rw [show (u.withNodes N).node a = (v.withNodes N).node a from rfl, hN]
    unfold probedNode nodeAtMark countedDown
    rw [show v.node a = u.node a from rfl, show v.cfg = u.cfg from rfl, h.cfg, h.nodes]
    rfl

/-! ## The mark announced (R109) -/

/-- What a mark leaves of the records and the queues that its announcement only bounds. -/
structure Announced (s : State) (N : Vector NodeState 48) (X : Vector SectionState 8) (q : List Nat) : Prop where
  nodes : ∀ a, (s.withNodes N).node a = nodeAtMark s a
  sections : ∀ i, i < 8 → limitless ((s.withSections X).sec i) =
    limitless { frostedSec s i with blocked := (s.sec i).blocked || decide (BlockFound s i) }
  limits : LimitsMarked s X q

/-- The part once every block has taken the mark. -/
def State.announced (s : State) (N : Vector NodeState 48) (X : Vector SectionState 8) (q : List Nat) : State :=
  State.raised { s with
    nodes := N, sections := X, loop := loopAtMark s,
    xe := { s.xe with laneA := laneAtMark s .a, laneB := laneAtMark s .b },
    arb := { s.arb with frost := q, flush := flushAtMark s, probe := probesAtMark s } }
    (blindEvents s ++ blockedEvents s)

theorem announceMark_announced (hw : PostsWait s) (hr : RoomForReports s 17) :
    ∃ N X q, announceMark s = s.announced N X q ∧ Announced s N X q := by
  obtain ⟨N, x, q, frost, aged, marked⟩ := frostMark_marked hw (RoomForReports.le hr (by decide))
  let u := s.marked N x (loopAtMark s) { s.arb with frost := q } (blindEvents s)
  have few : (blindEvents s).length ≤ 9 := by
    unfold blindEvents
    rw [List.length_append, List.length_map]
    have sections := List.length_filter_le (fun i => decide (SectionBlinds s i)) sectionNumbers
    rw [show sectionNumbers.length = 8 from rfl] at sections
    refine (Nat.add_le_add sections ?_ : _ ≤ 8 + 1)
    split
    · exact le_rfl
    · exact Nat.zero_le _
  have taken : FrostTaken s u := ⟨aged, rfl, rfl, rfl, rfl, marked.own⟩
  have room : RoomForReports u 8 := room_raised
    (s := { s with nodes := N, sections := x, loop := loopAtMark s, arb := { s.arb with frost := q } })
    (RoomForReports.le hr (by omega))
  obtain ⟨X, flush, hX⟩ := flushMark_staged (u := u) hw room
  rw [taken.flushQueue, taken.events] at flush
  let v := u.staged X { u.arb with flush := flushAtMark s } (blockedEvents s)
  have awaits : ProbesAwait s v := ⟨aged, fun _ => rfl, rfl, rfl⟩
  obtain ⟨M, probe, hM⟩ := probeMark_waits (u := v) hw awaits
  have own (i : Nat) (hi : i < 8) : (s.withSections X).sec i =
      { u.sec i with blocked := (s.sec i).blocked || decide (BlockFound s i) } := by
    refine (hX i hi).trans ?_
    unfold flushedSec
    rw [taken.blocked hi, decide_eq_decide.mpr (taken.blocks i)]
  have limits : LimitsMarked s X q := by
    refine ⟨fun i hi hm => ?_, fun i hi hm => ?_, marked.kept, marked.only⟩
    · rw [own i hi]
      exact marked.derived i hi hm
    · rw [own i hi]
      exact marked.stands i hi hm
  refine ⟨M, X, q, ?_, hM, fun i hi => ?_, limits⟩
  · have stages : v = s.marked N X (loopAtMark s) { s.arb with frost := q, flush := flushAtMark s }
        (blindEvents s ++ blockedEvents s) := marked_staged ..
    unfold announceMark
    rw [frost, show flushMark (s.marked ..) = v from flush, probe, stages]
    rfl
  · rw [own i hi]
    exact congrArg (fun y : SectionState => { y with blocked := (s.sec i).blocked || decide (BlockFound s i) })
      (marked.own i hi)

end Announced

end Sys2Proof.Machine
end

section
/-! PROOFS. The ways a MARK passes (R108, R110, R116). -/

namespace Sys2Proof.Machine

section Marks
variable {s t : State}

/-- R110: the overrun of a MARK that passes late. -/
def lateEvents (late : Option Nat) : List Occurrence := late.toList.map fun i => (.overrun, .slot i)

theorem lateEvents_length (late : Option Nat) : (lateEvents late).length ≤ 1 := by
  cases late with
  | none => exact Nat.zero_le 1
  | some i => exact le_rfl

theorem markEvents_eq (late : Option Nat) (s : State) :
    markEvents late s = lateEvents late ++ (blindEvents s ++ blockedEvents s) := by
  unfold markEvents blindEvents
  rw [← List.append_assoc, ← List.append_assoc]
  rfl

/-- The part after a MARK has passed and before the walk goes on: the walk has counted the cycle. -/
structure MarkPassing (s : State) (P : Sequencer) (late : Option Nat) (u : State) : Prop where
  eq : u = (s.withSeq P).raised (lateEvents late)
  resume : P.resume = none
  cycle : P.cycle = s.seq.cycle + 1

theorem markPassing_inTime {P : Sequencer} (hP : P.resume = none) (hc : P.cycle = s.seq.cycle + 1) :
    MarkPassing s P none (s.withSeq P) := ⟨(raised_nil _).symm, hP, hc⟩

theorem markTaken_of_announced {P : Sequencer} {late : Option Nat} {N : Vector NodeState 48} {X : Vector SectionState 8}
    {q : List Nat} {u : State} (hu : MarkPassing s P late u) (h : Announced s N X q) (Q : Sequencer) :
    MarkTaken late s (((u.announced N X q).withSeq Q).withLu (sendIfFree (u.announced N X q).lu)) := by
  obtain ⟨rfl, -, cycle⟩ := hu
  have stage : ((s.withSeq P).raised (lateEvents late)).announced N X q = State.raised { s.withSeq P with
      nodes := N, sections := X, loop := loopAtMark s,
      xe := { s.xe with laneA := laneAtMark s .a, laneB := laneAtMark s .b },
      arb := { s.arb with frost := q, flush := flushAtMark s, probe := probesAtMark s } } (markEvents late s) := by
    rw [markEvents_eq]
    exact raised_append (s := { s.withSeq P with
      nodes := N, sections := X, loop := loopAtMark s,
      xe := { s.xe with laneA := laneAtMark s .a, laneB := laneAtMark s .b },
      arb := { s.arb with frost := q, flush := flushAtMark s, probe := probesAtMark s } }) _ _
  rw [stage]
  obtain ⟨derived, stands, kept, only⟩ := h.limits
  refine ⟨?_, h.nodes, fun i hi => ?_, fun i hi hm => ?_, stands, kept, only⟩
  · have reports : ((markEvents late s).map fun e => eventNow (s.withSeq P) e.1 e.2 0) = (markEvents late s).map fun e =>
        .event { cls := .event e.1, subject := e.2, time := s.plantTime, cycle := s.seq.cycle + 1, detail := 0 } := by
      rw [← cycle]
      rfl
    rw [← reports]
    rfl
  · exact eq_of_limitless (h.sections i hi) rfl rfl
  · obtain ⟨limits, queued⟩ := derived i hi hm
    exact ⟨limits, overridesQueued_of_standsBy queued⟩

theorem announced_of_passing {P : Sequencer} {late : Option Nat} {N : Vector NodeState 48} {X : Vector SectionState 8}
    {q : List Nat} (h : Announced ((s.withSeq P).raised (lateEvents late)) N X q) : Announced s N X q := by
  obtain ⟨nodes, sections, derived, stands, kept, only⟩ := h
  exact ⟨nodes, sections, derived, stands, kept, only⟩

theorem announceMark_leads {P : Sequencer} {late : Option Nat} {u : State} (hu : MarkPassing s P late u) (hset : Settled s)
    (hw : PostsWait s) (hr : RoomForReports s 18) (hg : (s.slot (nextSlot P.current)).kind = .gap) :
    ∃ v, Leads 1 (goOn (announceMark u)) v ∧ Settled v ∧ MarkTaken late s (v.withLu (sendIfFree v.lu))
      ∧ v.arb.window = s.arb.window
      ∧ v.seq = gapReached P (nextSlot P.current) (s.slot (nextSlot P.current)).time := by
  have few := lateEvents_length late
  have room : RoomForReports u 17 := by
    rw [hu.eq]
    exact room_raised (s := s.withSeq P) (RoomForReports.le hr (by omega))
  obtain ⟨N, X, q, announced, taken⟩ := announceMark_announced (s := u) (by rw [hu.eq]; exact hw) room
  have takenFrom : Announced s N X q := announced_of_passing (by rw [← hu.eq]; exact taken)
  have seq : (u.announced N X q).seq = P := by
    rw [hu.eq]
    rfl
  have slots (i : Nat) : (u.announced N X q).slot i = s.slot i := by
    rw [hu.eq]
    rfl
  have due : (u.announced N X q).arb.due = s.arb.due := by
    rw [hu.eq]
    rfl
  have window : (u.announced N X q).arb.window = s.arb.window := by
    rw [hu.eq]
    rfl
  have told := markTaken_of_announced hu takenFrom
  rw [announced]
  generalize u.announced N X q = v at seq slots due window told
  have settled : Settled v := ⟨by rw [seq]; exact hu.resume, due.trans hset.2⟩
  have moves := goOn_gap settled (by rw [seq, slots]; exact hg)
  rw [seq, slots] at moves
  exact ⟨_, moves, ⟨hu.resume, settled.2⟩, told _, window, rfl⟩

/-! ## How the MARK comes to pass -/

/-- R108: the sequencer as a MARK passes, loaded for the cycle of length `time`. -/
def passedMark (q : Sequencer) (time : Word) : Sequencer :=
  { q with timer := .counting, timerLeft := 100 * time.toNat, cycle := q.cycle + 1 }

/-- R110: the sequencer as a MARK passes late. -/
def passedLate (q : Sequencer) (time : Word) : Sequencer :=
  { passedMark q time with overruns := satSucc 65535 q.overruns }

theorem passMark_false (s : State) :
    passMark false s = goOn (announceMark (s.withSeq (passedMark s.seq (s.slot s.seq.current).time))) := rfl

theorem passMark_true (hr : RoomForReports s 1) : passMark true s = goOn (announceMark
    ((s.withSeq (passedLate s.seq (s.slot s.seq.current).time)).raised (lateEvents (some s.seq.current)))) := by
  have counted : countOverrun (s.withSeq (passedMark s.seq (s.slot s.seq.current).time))
      = (s.withSeq (passedLate s.seq (s.slot s.seq.current).time)).raised (lateEvents (some s.seq.current)) :=
    raise_raised (c := .overrun) (s := s.withSeq (passedLate s.seq (s.slot s.seq.current).time)) _ (by decide) hr
  exact congrArg (fun u => goOn (announceMark u)) counted

/-- What a GAP leaves of the sequencer does not depend on where the walk stood before it. -/
theorem gapReached_atSlot {q : Sequencer} (hq : q.resume = none) (m : Nat) (a : Activity) (i : Nat) (time : Word) :
    gapReached (atSlot { q with activity := a } m) i time = gapReached q i time := by
  unfold gapReached atSlot
  rw [← hq]

theorem reachSlot_mark {i : Nat} (h : (s.slot i).kind = .mark) : reachSlot i s = reachMark (s.withSeq (atSlot s.seq i)) := by
  rw [reachSlot_timed (.inl h), actSlot, h]

/-- A command in which a MARK passes leaves the mark taken. -/
theorem finish_mark {P : Sequencer} {late : Option Nat} {u w : State} {n : Nat} (hw : Leads n w (goOn (announceMark u)))
    (hn : n ≤ 1) (hu : MarkPassing s P late u) (hset : Settled s) (hp : PostsWait s) (hr : RoomForReports s 18)
    (hg : (s.slot (nextSlot P.current)).kind = .gap) :
    MarkTaken late s (finish w) ∧ (finish w).arb.window = s.arb.window
      ∧ (finish w).seq = gapReached P (nextSlot P.current) (s.slot (nextSlot P.current)).time := by
  obtain ⟨v, moves, settled, taken, window, seq⟩ := announceMark_leads hu hset hp hr hg
  rw [finish_leads (hw.trans moves) (by omega) settled]
  exact ⟨taken, window, seq⟩

/-- The walk goes on to a MARK, which is reached in one move. -/
theorem leads_reachMark {Q : Sequencer} (hd : s.arb.due = false) (hQ : Q.resume = none)
    (hk : (s.slot (nextSlot Q.current)).kind = .mark) : Leads 1 (goOn (s.withSeq Q))
      (reachMark (s.withSeq (atSlot { Q with activity := .none } (nextSlot Q.current)))) := by
  have moves := leads_goOn (s := s.withSeq Q) ⟨hQ, hd⟩
  rw [reachSlot_mark (by exact hk)] at moves
  exact moves

/-- R108: the walk goes on to a MARK that passes in time. -/
theorem finish_mark_inTime {Q : Sequencer} (hset : Settled s) (hp : PostsWait s) (hr : RoomForReports s 18)
    (hQ : Q.resume = none) (hc : Q.cycle = s.seq.cycle) (hk : (s.slot (nextSlot Q.current)).kind = .mark)
    (hg : (s.slot (nextSlot (nextSlot Q.current))).kind = .gap) (ht : Q.timer = .idle ∨ Q.timer = .due) :
    MarkTaken none s (finish (goOn (s.withSeq Q))) ∧ (finish (goOn (s.withSeq Q))).arb.window = s.arb.window
      ∧ (finish (goOn (s.withSeq Q))).seq = gapReached (passedMark Q (s.slot (nextSlot Q.current)).time)
        (nextSlot (nextSlot Q.current)) (s.slot (nextSlot (nextSlot Q.current))).time := by
  let R := atSlot { Q with activity := .none } (nextSlot Q.current)
  have passes : reachMark (s.withSeq R)
      = goOn (announceMark (s.withSeq (passedMark R (s.slot (nextSlot Q.current)).time))) := by
    unfold reachMark
    rcases ht with ht | ht <;> rw [show (s.withSeq R).seq.timer = _ from ht] <;> rfl
  have moves := leads_reachMark hset.2 hQ hk
  rw [passes] at moves
  obtain ⟨taken, window, seq⟩ := finish_mark (P := passedMark R _) moves le_rfl
    (markPassing_inTime rfl (congrArg (· + 1) hc)) hset hp hr hg
  exact ⟨taken, window, seq.trans (gapReached_atSlot (q := passedMark Q _) hQ _ .none _ _)⟩

/-- R110: the walk goes on to a MARK that passes late. -/
theorem finish_mark_late {Q : Sequencer} (hset : Settled s) (hp : PostsWait s) (hr : RoomForReports s 18)
    (hQ : Q.resume = none) (hc : Q.cycle = s.seq.cycle) (hk : (s.slot (nextSlot Q.current)).kind = .mark)
    (hg : (s.slot (nextSlot (nextSlot Q.current))).kind = .gap) (ht : Q.timer = .lapsed) :
    MarkTaken (some (nextSlot Q.current)) s (finish (goOn (s.withSeq Q)))
      ∧ (finish (goOn (s.withSeq Q))).arb.window = s.arb.window
      ∧ (finish (goOn (s.withSeq Q))).seq = gapReached (passedLate Q (s.slot (nextSlot Q.current)).time)
        (nextSlot (nextSlot Q.current)) (s.slot (nextSlot (nextSlot Q.current))).time := by
  let R := atSlot { Q with activity := .none } (nextSlot Q.current)
  have passes : reachMark (s.withSeq R) = goOn (announceMark
      ((s.withSeq (passedLate R (s.slot (nextSlot Q.current)).time)).raised (lateEvents (some (nextSlot Q.current))))) := by
    unfold reachMark
    rw [show (s.withSeq R).seq.timer = _ from ht]
    exact passMark_true (s := s.withSeq R) (RoomForReports.le hr (by decide))
  have moves := leads_reachMark hset.2 hQ hk
  rw [passes] at moves
  obtain ⟨taken, window, seq⟩ := finish_mark (P := passedLate R _) moves le_rfl
    ⟨rfl, rfl, congrArg (· + 1) hc⟩ hset hp hr hg
  exact ⟨taken, window, seq.trans (gapReached_atSlot (q := passedLate Q _) hQ _ .none _ _)⟩

/-- Settles O52: the MARK passes in MARK_WAIT, behind a GAP in time or late, and behind a window that its zero closes. -/
theorem cycleMark : Obligations.CycleMark := by
  intro s hset hr hrun passed m w
  refine ⟨fun hc ha hp hg => ?_, fun hk hg => ⟨fun ha ht hp => ?_, fun ha ht hp => ?_, fun hc ha ho hw hf => ?_⟩⟩
  · have passes : cycleTimerZero s
        = goOn (announceMark (s.withSeq (passedMark s.seq (s.slot s.seq.current).time))) := by
      unfold cycleTimerZero
      rw [if_pos hc, if_pos ha, passMark_false]
    have marked := finish_mark (P := passedMark s.seq (s.slot s.seq.current).time) (.refl _) (Nat.zero_le 1) (markPassing_inTime hset.1 rfl) hset hp hr hg
    rw [← passes] at marked
    exact ⟨_, exec_minorCycleTimerZero s, marked⟩
  · have marked := finish_mark_inTime (Q := { s.seq with wait := 0 }) hset hp hr hset.1 rfl hk hg ht
    exact ⟨_, by rw [exec_waitTimerExpiry, waitOver_gap ha], marked⟩
  · have marked := finish_mark_late (Q := { s.seq with wait := 0 }) hset hp hr hset.1 rfl hk hg ht
    exact ⟨_, by rw [exec_waitTimerExpiry, waitOver_gap ha], marked⟩
  · have marked := finish_mark_inTime (s := s.withArb (windowShut s.arb)) (Q := { s.seq with timer := .due, timerLeft := 0 })
      hset rfl hr hset.1 rfl hk hg (.inr rfl)
    have closes : cycleTimerZero s
        = goOn ((s.withArb (windowShut s.arb)).withSeq { s.seq with timer := .due, timerLeft := 0 }) := by
      rw [cycleTimerZero_window hc ha (idleRunToEnd_iff.mpr ⟨ho, hw, hf⟩), closeWindow_running (by exact hrun),
        clearWindow_settled (by exact hset)]
      rfl
    exact ⟨_, by rw [exec_minorCycleTimerZero, closes], marked⟩

end Marks

end Sys2Proof.Machine
end

section
/-! PROOFS. A start-up that finds a valid image (R156). -/

namespace Sys2Proof.Machine

section ValidStart
variable {s : State}

/-- R54, R156: the record of section `i` once the interval timers of the enabled sections have been started. -/
def timedSec (s : State) (i : Nat) : SectionState :=
  { s.sec i with interval := if (s.secCfg i).enabled = true then some (intervalLength s) else (s.sec i).interval }

theorem startTimers_written (s : State) : ∃ x, forSections startEnabled s = s.withSections x
    ∧ ∀ i, i < 8 → (s.withSections x).sec i = timedSec s i := by
  refine sections_written fun n t hn hc hl own => ?_
  have record : t.secCfg n = s.secCfg n := by rw [State.secCfg, hc, State.secCfg]
  have length : intervalLength t = intervalLength s := by rw [intervalLength, hc, hl, intervalLength]
  unfold startEnabled startInterval timedSec
  rw [record, length, ← own]
  by_cases he : (s.secCfg n).enabled = true
  · rw [if_pos he, if_pos he]
  · rw [if_neg he, if_neg he]
    exact (setSec_self hn t).symm

/-- R49: a node whose last sent is unknown stands outside whatever its limit is. -/
theorem standsBy_powerOn {i a : Nat} {y : SectionState} (h : s.node a = .powerOn) :
    StandsBy s i y a ↔ a ∈ (s.secCfg i).fans ∨ (a = (s.secCfg i).valve ∧ a ≠ 0) := by
  unfold StandsBy
  rw [h]
  exact or_congr (and_iff_left rfl) (and_congr_right fun _ => and_iff_left rfl)

theorem pumpStands_powerOn {a : Nat} (h : s.node a = .powerOn) : PumpStands s a ↔ a ∈ s.cfg.loop.pumps := by
  unfold PumpStands
  rw [h]
  exact and_iff_left rfl

/-- R30: every actuator that the tables name in a role. -/
def InRole (t : ConfigTables) (s : State) (a : Nat) : Prop :=
  (∃ i, i < 8 ∧ (a ∈ ((s.withCfg t).secCfg i).fans ∨ (a = ((s.withCfg t).secCfg i).valve ∧ a ≠ 0))) ∨ a ∈ t.loop.pumps

/-- R156: a part whose field side has been configured from `t`, nothing else of it written. -/
def configured (t : ConfigTables) (s : State) : State := (s.withCfg t).withLoop (.powerOn t.loop.supply)

/-- R29, R30: the tables of an image, loaded, derived and checked. -/
theorem imageJudged_quiet (t : ConfigTables) (h : FieldQuiet s) :
    ∃ x q, imageJudged t s = ((configured t s).withSections x).withFrost q
      ∧ (∀ i, i < 8 → ((configured t s).withSections x).sec i = derivedSec (configured t s) i)
      ∧ ∀ a, a ∈ q ↔ InRole t s a := by
  have node (a : Nat) : (configured t s).node a = .powerOn := FieldQuiet.node h a
  obtain ⟨-, -, -, -, -, -, arb, -⟩ := h
  have waits : PostsWait (configured t s) := by
    show s.arb.window.waiting = false
    rw [arb]
    rfl
  have frost : (configured t s).arb.frost = [] := by
    show s.arb.frost = []
    rw [arb]
    rfl
  obtain ⟨x, q, hx, hsec, hj⟩ := deriveAll_joins waits
  obtain ⟨r, hr, hk⟩ := pumpCheck_waits (s := ((configured t s).withSections x).withFrost q) waits
  refine ⟨x, r, ?_, hsec, fun a => ?_⟩
  · have judged : imageJudged t s = pumpCheck (((configured t s).withSections x).withFrost q) := congrArg pumpCheck hx
    rw [judged, hr, withFrost_withFrost]
  · have pumps : PumpStands (((configured t s).withSections x).withFrost q) a ↔ a ∈ t.loop.pumps :=
      pumpStands_powerOn (s := ((configured t s).withSections x).withFrost q) (node a)
    have sections (i : Nat) : StandsBy (configured t s) i (derivedSec (configured t s) i) a
        ↔ a ∈ ((s.withCfg t).secCfg i).fans ∨ (a = ((s.withCfg t).secCfg i).valve ∧ a ≠ 0) := standsBy_powerOn (node a)
    rw [frost] at hj
    constructor
    · intro ha
      rcases hk.only a ha with ha | ha
      · rcases hj.only a ha with ha | ⟨i, hi, ha⟩
        · exact absurd ha List.not_mem_nil
        · exact .inl ⟨i, hi, (sections i).mp ha⟩
      · exact .inr (pumps.mp ha)
    · rintro (⟨i, hi, ha⟩ | ha)
      · exact hk.kept.subset (hj.all a ⟨i, hi, (sections i).mpr ha⟩)
      · exact hk.all a (pumps.mpr ha)

theorem sectionDerived_of_timed {u : State} {i : Nat} {n : Option Nat}
    (h : u.sec i = { derivedSec s i with interval := n }) (hc : u.secCfg i = s.secCfg i)
    (hl : u.loop.ceiling = s.loop.ceiling) : SectionDerived u i := by
  unfold SectionDerived
  rw [h, hc, hl]
  exact ⟨rfl, rfl⟩

/-- R156: the part as it leaves STARTING with the tables of a valid image, slot 0 still to be reached. -/
def launched (t : ConfigTables) (s : State) (x : Vector SectionState 8) (q : List Nat) : State :=
  let u := { s with
    cfg := t, loop := .powerOn t.loop.supply, sections := x, arb := { s.arb with frost := q },
    store := { s.store with state := .idle, image := .valid }, lu := { s.lu with stream := .hold },
    seq := { s.seq.launch 0 with haltCause := .none, haltSlot := 0 } }
  u.withEu (unitWith u s.eu.flags)

theorem startFromImage_launched (t : ConfigTables) (h : FieldQuiet s) :
    ∃ x q, startFromImage t s = launched t s x q
      ∧ (∀ i, i < 8 → ((configured t s).withSections x).sec i = { derivedSec (configured t s) i with
          interval := if ((s.withCfg t).secCfg i).enabled = true then some (1000 * t.loop.deepInterval) else none })
      ∧ ∀ a, a ∈ q ↔ InRole t s a := by
  obtain ⟨x, q, hx, hsec, hq⟩ := imageJudged_quiet t h
  obtain ⟨y, hy, hsec'⟩ := startTimers_written (imageTaken (((configured t s).withSections x).withFrost q))
  refine ⟨y, q, ?_, fun i hi => ?_, hq⟩
  · rw [startFromImage_eq, hx, hy, driveLines_unit]
    rfl
  · have stopped : (derivedSec (configured t s) i).interval = none :=
      congrArg SectionState.interval (FieldQuiet.sec h i)
    have before : (imageTaken (((configured t s).withSections x).withFrost q)).sec i = derivedSec (configured t s) i :=
      hsec i hi
    refine (hsec' i hi).trans ?_
    unfold timedSec
    rw [before, stopped]
    rfl

theorem exec_startup_valid {read : ReadBack} {image : StoredImage} (hs : s.Starting)
    (hf : readBack s.store.stored read = some image) (hc : imageChecks image = true) :
    exec (.startupReadEnd read) s
      = .next (finish (startFromImage image.tables (s.withStore { s.store with stored := some image }))) := by
  have ended : startupRead read s = startFromImage image.tables (s.withStore { s.store with stored := some image }) := by
    unfold startupRead
    rw [if_pos hs, hf, endStarting]
    exact if_pos hc
  rw [exec_startupReadEnd, ended]

theorem sendIfFree_stream (u : LinkUnit) : (sendIfFree u).stream = u.stream := by
  have chosen : (chooseFrame u).stream = u.stream := by
    unfold chooseFrame
    split <;> rfl
  unfold sendIfFree
  split
  · exact chosen
  · rfl

theorem finish_launched_gap {t : ConfigTables} {x : Vector SectionState 8} {q : List Nat} (h : FieldQuiet s)
    (hg : ((s.withCfg t).slot 0).kind = .gap) : finish (launched t s x q) = ((launched t s x q).withSeq
      { Sequencer.powerOn with state := .running, activity := .gapWait,
                               wait := 100 * ((s.withCfg t).slot 0).time.toNat }).withLu
        (sendIfFree (launched t s x q).lu) := by
  obtain ⟨-, -, -, -, -, seq, arb, -⟩ := h
  have due : (launched t s x q).arb.due = false := by
    show s.arb.due = false
    rw [arb]
    rfl
  have moves := Leads.one (settleOnce_resume (s := launched t s x q) due rfl)
  rw [reachSlot_gap (by exact hg)] at moves
  have reached : gapReached { (launched t s x q).seq with resume := none } 0 ((launched t s x q).slot 0).time
      = { Sequencer.powerOn with state := .running, activity := .gapWait,
                                 wait := 100 * ((s.withCfg t).slot 0).time.toNat } := by
    show gapReached { s.seq.launch 0 with haltCause := .none, haltSlot := 0, resume := none } 0 _ = _
    rw [seq]
    rfl
  rw [reached] at moves
  exact finish_leads moves (by decide) ⟨rfl, due⟩

/-- Settles O5: the walk that begins at slot 0 leaves the tables, the store, the mode and the timers; a GAP it reaches
in one move. -/
theorem startupFromValidImage : Obligations.StartupFromValidImage := by
  intro read image s hs hq hf hc
  have quiet : FieldQuiet (s.withStore { s.store with stored := some image }) := hq hs
  obtain ⟨x, q, launch, sections, queue⟩ := startFromImage_launched image.tables quiet
  let v := launched image.tables (s.withStore { s.store with stored := some image }) x q
  have walk := settling_settle v
  have ends : finish v = (settle v).withLu (sendIfFree (settle v).lu) := txStart_eq _
  obtain ⟨-, -, -, -, -, -, -, mode⟩ := id quiet
  have stream : (settle v).lu.stream = .hold := by rw [walk.lu]; rfl
  refine ⟨(settle v).withLu (sendIfFree (settle v).lu), ?_, walk.cfg, walk.store, walk.mode.trans mode, walk.demand,
    (sendIfFree_stream _).trans stream, walk.plantTime, fun i hi => ?_, fun hg => ?_⟩
  · rw [exec_startup_valid hs hf (beq_iff_eq.mpr hc), launch, ends]
  · have stands : ((settle v).sec i).interval = (v.sec i).interval := by rw [walk.sec i]
    have record : (settle v).secCfg i = v.secCfg i := by rw [State.secCfg, walk.cfg, State.secCfg]
    have timed : (v.sec i).interval = _ := congrArg SectionState.interval (sections i hi)
    show ((settle v).sec i).interval = if ((settle v).secCfg i).enabled = true then _ else _
    rw [stands, record, timed]
    rfl
  · have slot : ((settle v).slot 0).kind = (v.slot 0).kind := by rw [State.slot, walk.cfg, State.slot]
    have gap : (v.slot 0).kind = .gap := slot.symm.trans hg
    rw [← ends, finish_launched_gap quiet gap]
    exact ⟨rfl, queue, fun i hi => sectionDerived_of_timed (sections i hi) rfl rfl, rfl, rfl⟩

end ValidStart

end Sys2Proof.Machine
end
